-- ==== Sys2Proof/Word.lean ====
section
/-! DEFINITION. The widths of the block's values (00_scope.md R6) and the two value types it moves: a packet
(10_state.md R28) and a wire pair (R29). Every value is unsigned (00_scope.md R8). -/

namespace Sys2Proof

/-- 8 bits: block ID, device ID, wire address, one RGB component (`BLOCK_W`, `DEVICE_W`, `ADDR_W`, `RGB_W` of R6). -/
abbrev Byte := BitVec 8

/-- The wire command (`CMD_W` of R6). -/
abbrev Command := BitVec 16

/-- The mode field (`MODE_W` of R6). -/
abbrev Mode := BitVec 5

/-- The data field (`DATA_W` of R6). -/
abbrev Data := BitVec 3

/-- The operation select (`OP_W` of R6). -/
abbrev Select := BitVec 3

/-- The ports `in_mode`, `in_data` and `in_code`, of width `ARG_W` = 8 (00_scope.md R6, 92_eei_decisions.md D7). -/
abbrev Arg := BitVec 8

/-- A name: ASCII characters, exact case, no terminator, no padding (00_scope.md R10). -/
abbrev Name := String

/-- A packet, a value of four unsigned fields (10_state.md R28). `mode <= 31` and `data <= 7` hold by the widths. -/
structure Packet where
  blockId  : Byte
  deviceId : Byte
  mode     : Mode
  data     : Data
  deriving DecidableEq, Repr

/-- A wire pair (10_state.md R29). -/
structure WirePair where
  address : Byte
  command : Command
  deriving DecidableEq, Repr

end Sys2Proof
end

