-- ==== Sys2Proof/Config.lean ====
section
/-! DEFINITION. The parameters of 00_scope.md R6 that the rules name, and the values the spec leaves open, as opaque
constants of which nothing can be proved. -/

namespace Sys2Proof.Config

/-- `MODE_COUNT`: named modes, entries of `MODE_ROM` (00_scope.md R6). -/
abbrev modeCount : Nat := 12

/-- `COLOR_COUNT`: entries of `COLOR_ROM` (00_scope.md R6). -/
abbrev colorCount : Nat := 8

/-- `LTF_MODE`, the mode code of `laser_tag_fire` (40_codec.md R81). -/
abbrev ltfMode : Mode := 0b00000#5

/-- FREE VALUE. The `n`-th `draw_8()` (00_scope.md R9, 10_state.md R30): any byte, tied to nothing
(93_implementation_defined.md I1; log 4). -/
opaque draw8 : Nat → Byte

/-- OPEN parameter `T_PD`, the settling bound of every operation (00_scope.md R6, 92_eei_decisions.md D15; log 9). -/
opaque tPd : Nat

/-- FREE VALUE. What the 80 output bits show at the `n`-th sample taken before they have settled
(70_reset_and_hazards.md R161, R165; 93_implementation_defined.md I2; log 9). -/
opaque unsettled : Nat → BitVec 80

end Sys2Proof.Config
end

