-- ==== Sys2Proof/Syntax.lean ====
section
/-! DEFINITION. The syntax: one constructor of `Instr` per row of the opcode table, the words that carry an
instruction on a port, and the evaluation syntax of 30_encoding.md R70. -/

namespace Sys2Proof

/-- The rows of the opcode table. The seven OPSEL3 rows are the operations (30_encoding.md R67); their operands are
not part of the word, they stand on the input ports (10_state.md R24). The twelve CMD16 rows are the command words
of the named modes (42_modes.md R120-R131); their operands are the two other fields of the command (30_encoding.md R62). -/
inductive Instr where
  | encGen
  | encLtf
  | decGen
  | decLtf
  | modeName
  | colorName
  | colorRgb
  | modeLaserTagFire (deviceId : Byte) (data : Data)
  | modeUserPresenceAnnouncement (deviceId : Byte) (data : Data)
  | modeBaseStationPresenceAnnouncement (deviceId : Byte) (data : Data)
  | modeUserToUserHandshakeInitiation (deviceId : Byte) (data : Data)
  | modeUserToUserHandshakeResponse (deviceId : Byte) (data : Data)
  | modeUserToBaseStationHandshakeInitiation (deviceId : Byte) (data : Data)
  | modeUserToBaseStationHandshakeResponse (deviceId : Byte) (data : Data)
  | modeBaseStationToUserHandshakeInitiation (deviceId : Byte) (data : Data)
  | modeBaseStationToUserHandshakeResponse (deviceId : Byte) (data : Data)
  | modeColorSetTemporary (deviceId : Byte) (data : Data)
  | modeColorSetPermanent (deviceId : Byte) (data : Data)
  | modeGeneralInteract (deviceId : Byte) (data : Data)
  deriving DecidableEq, Repr

/-- A word as the block receives it, whole and in parallel on the port of its format (30_encoding.md R60; no byte
order arises, 20_memory.md R44). -/
inductive PortWord where
  /-- an OPSEL3 word on `in_op` -/
  | select (op : Select)
  /-- a CMD16 word on `in_command` -/
  | command (c : Command)
  deriving DecidableEq, Repr

/-- A word as the opcode table numbers it: `nbits` bits, of value `w`. -/
structure RawWord where
  nbits : Nat
  w     : Nat
  deriving DecidableEq, Repr

/-- Words of a port that no row of the table names. Neither is an error of the block. -/
inductive Unlisted where
  /-- select 7 (30_encoding.md R68): the block answers with `out_illegal` (60_exceptions.md R144) -/
  | reservedSelect
  /-- a command of mode 12 to 31 (42_modes.md R132): valid, carried unchanged -/
  | unnamedMode (m : Mode)
  deriving DecidableEq, Repr

/-- Why a raw word is no instruction of the table. -/
inductive DecodeRefusal where
  /-- neither of the two word formats OPSEL3 (in one whole byte) and CMD16 has that many bits -/
  | noSuchFormat (nbits : Nat)
  /-- the value does not fit the port that carries the format (93_implementation_defined.md I7) -/
  | tooWide (nbits w : Nat)
  /-- the word fits its port and no row names it -/
  | unlisted (u : Unlisted)
  deriving DecidableEq, Repr

/-- The evaluation syntax of 30_encoding.md R70: a mnemonic and its operands, unsigned literals, in the source's
argument order. -/
inductive Evaluation where
  | encGen (blockId deviceId mode data : Nat)
  | encLtf (blockId deviceId color : Nat)
  | decGen (address command : Nat)
  | decLtf (address command : Nat)
  | modeName (mode : Nat)
  | colorName (color : Nat)
  | colorRgb (color : Nat)
  deriving DecidableEq, Repr

end Sys2Proof
end

