-- ==== Sys2Proof/WellFormed.lean ====
section
/-! DEFINITION. Well-formedness. An `Instr` has no ill-formed term: each operand has exactly the width of its field,
and every value of a field is legal (30_encoding.md R65). What is checked is what is written with plain numbers: a
raw word of the opcode table, and the literals of an evaluation, which must fit their ports (00_scope.md R6;
93_implementation_defined.md I7: a wider value is refused). -/

namespace Sys2Proof

/-- A literal fits a port of `width` bits. -/
def fits (width n : Nat) : Bool := decide (n < 2 ^ width)

/-- OPSEL3 is 3 bits, one whole byte in the table's numbering; CMD16 is 16 bits (30_encoding.md R60; log 7). -/
def RawWord.wf (r : RawWord) : Bool :=
  (r.nbits == 8 && fits 3 r.w) || (r.nbits == 16 && fits 16 r.w)

/-- Every literal fits the port that 10_state.md R24 gives for its operand. -/
def Evaluation.wf : Evaluation → Bool
  | .encGen b d m t => fits 8 b && fits 8 d && fits 8 m && fits 8 t
  | .encLtf b d c => fits 8 b && fits 8 d && fits 8 c
  | .decGen a c => fits 8 a && fits 16 c
  | .decLtf a c => fits 8 a && fits 16 c
  | .modeName m => fits 8 m
  | .colorName c => fits 8 c
  | .colorRgb c => fits 8 c

end Sys2Proof
end

