-- ==== Sys2Proof/Decode.lean ====
section
/-! DEFINITION. The layout of CMD16 (30_encoding.md R62-R64), the decoder and the encoder of the opcode table, and
the table's match and mask of each row. -/

namespace Sys2Proof

/-- `command[7:0]` (30_encoding.md R64). -/
def commandDeviceId (c : Command) : Byte := c.extractLsb' 0 8

/-- `command[12:8]` (30_encoding.md R64). -/
def commandMode (c : Command) : Mode := c.extractLsb' 8 5

/-- `command[15:13]` (30_encoding.md R64). -/
def commandData (c : Command) : Data := c.extractLsb' 13 3

/-- `data ++ mode ++ deviceId` (30_encoding.md R63). -/
def packCommand (data : Data) (mode : Mode) (deviceId : Byte) : Command := data ++ mode ++ deviceId

/-- OPSEL3: the operation of a select value (30_encoding.md R67); 7 is reserved (R68). -/
def decodeSelect (op : Select) : Except Unlisted Instr :=
  match op.toNat with
  | 0 => .ok .encGen
  | 1 => .ok .encLtf
  | 2 => .ok .decGen
  | 3 => .ok .decLtf
  | 4 => .ok .modeName
  | 5 => .ok .colorName
  | 6 => .ok .colorRgb
  | _ => .error .reservedSelect

/-- The CMD16 row of a mode code, with its two operands (42_modes.md R120-R131); 12 to 31 have no row (R132). -/
def modeInstr (m : Mode) (deviceId : Byte) (data : Data) : Except Unlisted Instr :=
  match m.toNat with
  | 0 => .ok (.modeLaserTagFire deviceId data)
  | 1 => .ok (.modeUserPresenceAnnouncement deviceId data)
  | 2 => .ok (.modeBaseStationPresenceAnnouncement deviceId data)
  | 3 => .ok (.modeUserToUserHandshakeInitiation deviceId data)
  | 4 => .ok (.modeUserToUserHandshakeResponse deviceId data)
  | 5 => .ok (.modeUserToBaseStationHandshakeInitiation deviceId data)
  | 6 => .ok (.modeUserToBaseStationHandshakeResponse deviceId data)
  | 7 => .ok (.modeBaseStationToUserHandshakeInitiation deviceId data)
  | 8 => .ok (.modeBaseStationToUserHandshakeResponse deviceId data)
  | 9 => .ok (.modeColorSetTemporary deviceId data)
  | 10 => .ok (.modeColorSetPermanent deviceId data)
  | 11 => .ok (.modeGeneralInteract deviceId data)
  | _ => .error (.unnamedMode m)

/-- CMD16: the row of a command word, by its mode field (30_encoding.md R66). -/
def decodeCommand (c : Command) : Except Unlisted Instr :=
  modeInstr (commandMode c) (commandDeviceId c) (commandData c)

/-- The instruction a port's word stands for; total, a word of no row is named. -/
def decode : PortWord → Except Unlisted Instr
  | .select op => decodeSelect op
  | .command c => decodeCommand c

/-- The port that carries a raw word; a word of another size, or one that does not fit its port, is refused by name. -/
def RawWord.toPort (r : RawWord) : Except DecodeRefusal PortWord :=
  if r.wf then
    if r.nbits = 8 then .ok (.select (BitVec.ofNat 3 r.w)) else .ok (.command (BitVec.ofNat 16 r.w))
  else if r.nbits = 8 ∨ r.nbits = 16 then .error (.tooWide r.nbits r.w)
  else .error (.noSuchFormat r.nbits)

/-- The decoder of raw words: total on every size and value. -/
def decodeRaw (r : RawWord) : Except DecodeRefusal Instr :=
  match r.toPort with
  | .ok p =>
    match decode p with
    | .ok i => .ok i
    | .error u => .error (.unlisted u)
  | .error e => .error e

/-- The instruction the decoder reads from an instruction of `nbits` bits, numbered as the opcode table numbers them. -/
def decodeTableWord (nbits w : Nat) : Option Instr :=
  match decodeRaw ⟨nbits, w⟩ with
  | .ok i => some i
  | .error _ => none

/-- The word of an instruction: `in_op` of 30_encoding.md R67, or the command of 42_modes.md R120-R131. -/
def encode : Instr → PortWord
  | .encGen => .select 0b000#3
  | .encLtf => .select 0b001#3
  | .decGen => .select 0b010#3
  | .decLtf => .select 0b011#3
  | .modeName => .select 0b100#3
  | .colorName => .select 0b101#3
  | .colorRgb => .select 0b110#3
  | .modeLaserTagFire d t => .command (packCommand t 0b00000#5 d)
  | .modeUserPresenceAnnouncement d t => .command (packCommand t 0b00001#5 d)
  | .modeBaseStationPresenceAnnouncement d t => .command (packCommand t 0b00010#5 d)
  | .modeUserToUserHandshakeInitiation d t => .command (packCommand t 0b00011#5 d)
  | .modeUserToUserHandshakeResponse d t => .command (packCommand t 0b00100#5 d)
  | .modeUserToBaseStationHandshakeInitiation d t => .command (packCommand t 0b00101#5 d)
  | .modeUserToBaseStationHandshakeResponse d t => .command (packCommand t 0b00110#5 d)
  | .modeBaseStationToUserHandshakeInitiation d t => .command (packCommand t 0b00111#5 d)
  | .modeBaseStationToUserHandshakeResponse d t => .command (packCommand t 0b01000#5 d)
  | .modeColorSetTemporary d t => .command (packCommand t 0b01001#5 d)
  | .modeColorSetPermanent d t => .command (packCommand t 0b01010#5 d)
  | .modeGeneralInteract d t => .command (packCommand t 0b01011#5 d)

/-- The word of an instruction in the opcode table's numbering. -/
def PortWord.raw : PortWord → RawWord
  | .select op => ⟨8, op.toNat⟩
  | .command c => ⟨16, c.toNat⟩

/-- The `mask` column of the opcode table: `0b111` for OPSEL3, `0x1F00` for CMD16. -/
def PortWord.rowMask : PortWord → Nat
  | .select _ => 0b111
  | .command _ => 0x1F00

/-- The `match` column of the opcode table, row by row. -/
def Instr.rowMatch : Instr → Nat
  | .encGen => 0b000
  | .encLtf => 0b001
  | .decGen => 0b010
  | .decLtf => 0b011
  | .modeName => 0b100
  | .colorName => 0b101
  | .colorRgb => 0b110
  | .modeLaserTagFire _ _ => 0x0000
  | .modeUserPresenceAnnouncement _ _ => 0x0100
  | .modeBaseStationPresenceAnnouncement _ _ => 0x0200
  | .modeUserToUserHandshakeInitiation _ _ => 0x0300
  | .modeUserToUserHandshakeResponse _ _ => 0x0400
  | .modeUserToBaseStationHandshakeInitiation _ _ => 0x0500
  | .modeUserToBaseStationHandshakeResponse _ _ => 0x0600
  | .modeBaseStationToUserHandshakeInitiation _ _ => 0x0700
  | .modeBaseStationToUserHandshakeResponse _ _ => 0x0800
  | .modeColorSetTemporary _ _ => 0x0900
  | .modeColorSetPermanent _ _ => 0x0A00
  | .modeGeneralInteract _ _ => 0x0B00

end Sys2Proof
end

