-- ==== Sys2Proof/Machine/Rom.lean ====
section
/-! DEFINITION. The contents of the two constant tables (20_memory.md R40-R42), the only storage in the block
(10_state.md R23). The literals are the source's, unaudited (92_eei_decisions.md D21; log 8). -/

namespace Sys2Proof.Machine

/-- An entry of `COLOR_ROM`: a name and an R, G, B triple (20_memory.md R42). -/
structure ColorEntry where
  name : Name
  r    : Byte
  g    : Byte
  b    : Byte
  deriving DecidableEq, Repr

/-- `MODE_ROM` as built (20_memory.md R41). -/
def builtModeRom : Vector Name Config.modeCount :=
  #v["laser_tag_fire",
     "user_presence_announcement",
     "base_station_presence_announcement",
     "user_to_user_handshake_initiation",
     "user_to_user_handshake_response",
     "user_to_base_station_handshake_initiation",
     "user_to_base_station_handshake_response",
     "base_station_to_user_handshake_initiation",
     "base_station_to_user_handshake_response",
     "color_set_temporary",
     "color_set_permanent",
     "general_interact"]

/-- `COLOR_ROM` as built (20_memory.md R42). -/
def builtColorRom : Vector ColorEntry Config.colorCount :=
  #v[⟨"Cyan", 0, 255, 255⟩,
     ⟨"Magenta", 255, 0, 255⟩,
     ⟨"Yellow", 255, 255, 0⟩,
     ⟨"Green", 0, 255, 0⟩,
     ⟨"Red", 255, 0, 0⟩,
     ⟨"Blue", 0, 0, 255⟩,
     ⟨"Orange", 255, 165, 0⟩,
     ⟨"White", 255, 255, 255⟩]

/-- The sentinel name of an out-of-range code (41_lookup.md R103). -/
def unknownName : Name := "unknown"

end Sys2Proof.Machine
end

