-- ==== Sys2Proof/Machine/State.lean ====
section
/-! DEFINITION. The state: every port (10_state.md R24, R25) and the two constant tables (R23), and the two fields
of the model's own. The block keeps nothing from one evaluation to the next (R20): the inputs are the host's, and
every evaluation drives every output anew, whatever stood there. -/

namespace Sys2Proof.Machine

/-- The input ports (10_state.md R24). -/
structure Inputs where
  op       : Select
  blockId  : Byte
  deviceId : Byte
  mode     : Arg
  data     : Arg
  address  : Byte
  command  : Command
  code     : Arg
  deriving DecidableEq, Repr

/-- The output ports (10_state.md R25). A 1-bit port is a `Bool`, 1 being `true` (log 14). -/
structure Outputs where
  address   : Byte
  command   : Command
  blockId   : Byte
  deviceId  : Byte
  mode      : Mode
  data      : Data
  matched   : Bool
  nameHit   : Bool
  nameIndex : BitVec 4
  found     : Bool
  r         : Byte
  g         : Byte
  b         : Byte
  illegal   : Bool
  deriving DecidableEq, Repr

/-- The port whose word a step is named after (the model's own; log 5). -/
inductive View where
  /-- the OPSEL3 word on `in_op` -/
  | select
  /-- the CMD16 word on `in_command` -/
  | command
  deriving DecidableEq, Repr

/-- The state of one block. -/
structure State where
  /-- the input ports, driven by the host -/
  inp       : Inputs
  /-- the output ports as the last evaluation settled them -/
  out       : Outputs
  /-- `MODE_ROM` -/
  modeRom   : Vector Name Config.modeCount
  /-- `COLOR_ROM` -/
  colorRom  : Vector ColorEntry Config.colorCount
  /-- MODEL'S OWN: how many free bytes have been drawn (log 4) -/
  draws     : Nat
  /-- MODEL'S OWN: the port whose word the next step is named after (log 5) -/
  fetchFrom : View
  deriving DecidableEq, Repr

/-- The block has no fault, trap or exception (60_exceptions.md R140): there is no reason to stop with. -/
inductive Fault where
  deriving DecidableEq, Repr

/-- Why an instruction has no meaning. -/
inductive Refusal where
  /-- Raised by an arm of `exec` whose instruction has no meaning yet; safe. No arm raises it: every one has its meaning. -/
  | notModelled (mnemonic : String)
  deriving DecidableEq, Repr

/-- The block right after power-up, its inputs stable (10_state.md R31, 70_reset_and_hazards.md R160, R161): the
tables as built, no input driven to 1 (DESIGN CHOICE, log 2), every output the function of those inputs (log 3). -/
def State.reset : State :=
  { inp := { op := 0, blockId := 0, deviceId := 0, mode := 0, data := 0, address := 0, command := 0, code := 0 }
    out := { address := 0, command := 0, blockId := 0, deviceId := 0, mode := 0, data := 0, matched := false,
             nameHit := false, nameIndex := 0, found := false, r := 0, g := 0, b := 0, illegal := false }
    modeRom := builtModeRom
    colorRom := builtColorRom
    draws := 0
    fetchFrom := .select }

end Sys2Proof.Machine
end

