-- ==== Sys2Proof/Machine/Operands.lean ====
section
/-! DEFINITION. Operand forms: how each operation reads its operands off the ports. Encoders mask (40_codec.md R82,
60_exceptions.md R141), decoders slice (30_encoding.md R64), lookups take the whole code (41_lookup.md R105). -/

namespace Sys2Proof.Machine

/-- `in.mode[4:0]` (40_codec.md R82). -/
def maskMode (v : Arg) : Mode := v.setWidth 5

/-- `in.data[2:0]` (40_codec.md R82). -/
def maskData (v : Arg) : Data := v.setWidth 3

/-- A packet as a wire pair (30_encoding.md R61, R63). -/
def encodePacket (p : Packet) : WirePair :=
  ⟨p.blockId, packCommand p.data p.mode p.deviceId⟩

/-- A wire pair as a packet (30_encoding.md R64). Every pair is legal (R65). -/
def decodePacket (w : WirePair) : Packet :=
  ⟨w.address, commandDeviceId w.command, commandMode w.command, commandData w.command⟩

/-- The packet that ENC_GEN sends: `mode` and `data` masked (40_codec.md R82). -/
def generalPacket (inp : Inputs) : Packet :=
  ⟨inp.blockId, inp.deviceId, maskMode inp.mode, maskData inp.data⟩

/-- The packet that ENC_LTF sends: mode `LTF_MODE`, the color on `in_data` masked (40_codec.md R83). -/
def laserTagPacket (inp : Inputs) : Packet :=
  ⟨inp.blockId, inp.deviceId, Config.ltfMode, maskData inp.data⟩

/-- The received wire pair (40_codec.md R84, R85). -/
def receivedPair (inp : Inputs) : WirePair := ⟨inp.address, inp.command⟩

/-- `in.code[3:0]` (41_lookup.md R100). -/
def modeIndex (code : Arg) : BitVec 4 := code.setWidth 4

/-- `zext_4(in.code[2:0])` (41_lookup.md R101). -/
def colorIndex (code : Arg) : BitVec 4 := (code.setWidth 3).setWidth 4

end Sys2Proof.Machine
end

