-- ==== Sys2Proof/Machine/Flags.lean ====
section
/-! DEFINITION. The conditions behind the four flags (10_state.md R26) and the condition table (60_exceptions.md R145). -/

namespace Sys2Proof.Machine

/-- `out_matched` of a decoded mode (40_codec.md R85). -/
def isLaserTagFire (m : Mode) : Bool := m == Config.ltfMode

/-- `in.code < MODE_COUNT`, unsigned on all of `in_code` (41_lookup.md R100). -/
def modeInRange (code : Arg) : Bool := decide (code.toNat < Config.modeCount)

/-- `in.code < COLOR_COUNT`, unsigned on all of `in_code` (41_lookup.md R101, R102). -/
def colorInRange (code : Arg) : Bool := decide (code.toNat < Config.colorCount)

/-- The conditions the block reports (60_exceptions.md R145). -/
inductive Condition where
  | maskedOperand
  | notLaserTagFire
  | nameUnknown
  | colorNotFound
  | illegalOp
  deriving DecidableEq, Repr

/-- The one condition an evaluation of these inputs raises, if any (60_exceptions.md R145, R147). -/
def conditionOf (inp : Inputs) : Option Condition :=
  match inp.op.toNat with
  | 0 => if 32 ≤ inp.mode.toNat ∨ 8 ≤ inp.data.toNat then some .maskedOperand else none
  | 1 => if 8 ≤ inp.data.toNat then some .maskedOperand else none
  | 2 => none
  | 3 => if isLaserTagFire (commandMode inp.command) then none else some .notLaserTagFire
  | 4 => if modeInRange inp.code then none else some .nameUnknown
  | 5 => if colorInRange inp.code then none else some .nameUnknown
  | 6 => if colorInRange inp.code then none else some .colorNotFound
  | _ => some .illegalOp

end Sys2Proof.Machine
end

