-- ==== Sys2Proof/Machine/Ops.lean ====
section
/-! DEFINITION. The operations every meaning shares: idle outputs, reading a ROM, a draw, completing an evaluation,
and the answer to the reserved select, the only thing the block has in an exception's place (60_exceptions.md R140,
R144). There is no trap entry and no return from one (R148, R149). -/

namespace Sys2Proof.Machine

/-- What a meaning answers. -/
abbrev Result := Host.Outcome State Fault Refusal

/-- The idle value, 0, on every output (40_codec.md R80, 10_state.md R25). -/
def Outputs.idle : Outputs :=
  { address := 0, command := 0, blockId := 0, deviceId := 0, mode := 0, data := 0, matched := false,
    nameHit := false, nameIndex := 0, found := false, r := 0, g := 0, b := 0, illegal := false }

/-- `RomRead(MODE_ROM, k)`, defined for `k` below the entry count (20_memory.md R43). -/
def readModeRom (s : State) (k : Nat) (h : k < Config.modeCount) : Name := s.modeRom[k]

/-- `RomRead(COLOR_ROM, k)`, defined for `k` below the entry count (20_memory.md R43). -/
def readColorRom (s : State) (k : Nat) (h : k < Config.colorCount) : ColorEntry := s.colorRom[k]

/-- The `k`-th fresh `draw_8()` of this evaluation (10_state.md R30; log 4). -/
def State.draw (s : State) (k : Nat) : Byte := Config.draw8 (s.draws + k)

/-- The evaluation ends: its outputs are driven, and the draws it took will not be taken again. -/
def State.complete (s : State) (o : Outputs) (used : Nat) : Result :=
  .next { s with out := o, draws := s.draws + used }

/-- The answer to `in.op == 0b111`: `out_illegal`, every other output idle (60_exceptions.md R144). -/
def reservedOutputs : Outputs := { Outputs.idle with illegal := true }

/-- The evaluation of the reserved select reads no data input and no ROM (60_exceptions.md R144). -/
def execReserved (s : State) : Result := s.complete reservedOutputs 0

end Sys2Proof.Machine
end

