-- ==== Sys2Proof/Machine/Codec.lean ====
section
/-! DEFINITION. ENC_GEN, ENC_LTF, DEC_GEN, DEC_LTF (40_codec.md R82-R85): the outputs of each as a function of the
inputs, and its meaning. -/

namespace Sys2Proof.Machine

/-- Driving a wire pair, every other output idle. -/
def pairOutputs (w : WirePair) : Outputs := { Outputs.idle with address := w.address, command := w.command }

/-- Driving a packet, every other output idle. -/
def packetOutputs (p : Packet) : Outputs :=
  { Outputs.idle with blockId := p.blockId, deviceId := p.deviceId, mode := p.mode, data := p.data }

/-- 40_codec.md R82. -/
def encGenOutputs (inp : Inputs) : Outputs := pairOutputs (encodePacket (generalPacket inp))

/-- 40_codec.md R83. -/
def encLtfOutputs (inp : Inputs) : Outputs := pairOutputs (encodePacket (laserTagPacket inp))

/-- 40_codec.md R84. -/
def decGenOutputs (inp : Inputs) : Outputs := packetOutputs (decodePacket (receivedPair inp))

/-- 40_codec.md R85. -/
def decLtfOutputs (inp : Inputs) : Outputs :=
  { packetOutputs (decodePacket (receivedPair inp)) with matched := isLaserTagFire (commandMode inp.command) }

/-- ENC_GEN (40_codec.md R82). -/
def execEncGen (s : State) : Result := s.complete (encGenOutputs s.inp) 0

/-- ENC_LTF (40_codec.md R83). -/
def execEncLtf (s : State) : Result := s.complete (encLtfOutputs s.inp) 0

/-- DEC_GEN (40_codec.md R84). -/
def execDecGen (s : State) : Result := s.complete (decGenOutputs s.inp) 0

/-- DEC_LTF (40_codec.md R85). -/
def execDecLtf (s : State) : Result := s.complete (decLtfOutputs s.inp) 0

end Sys2Proof.Machine
end

