-- ==== Sys2Proof/Machine/Lookup.lean ====
section
/-! DEFINITION. MODE_NAME, COLOR_NAME, COLOR_RGB (41_lookup.md R100-R102) and the spelling of a name result (R104). -/

namespace Sys2Proof.Machine

/-- 41_lookup.md R100. -/
def modeNameOutputs (inp : Inputs) : Outputs :=
  if modeInRange inp.code then { Outputs.idle with nameHit := true, nameIndex := modeIndex inp.code }
  else { Outputs.idle with nameHit := false, nameIndex := 0 }

/-- 41_lookup.md R101. -/
def colorNameOutputs (inp : Inputs) : Outputs :=
  if colorInRange inp.code then { Outputs.idle with nameHit := true, nameIndex := colorIndex inp.code }
  else { Outputs.idle with nameHit := false, nameIndex := 0 }

/-- A found color drives its triple (41_lookup.md R102). -/
def colorFoundOutputs (e : ColorEntry) : Outputs :=
  { Outputs.idle with found := true, r := e.r, g := e.g, b := e.b }

/-- On a miss the triple is three fresh draws (41_lookup.md R102, 10_state.md R30; log 4). -/
def colorMissOutputs (s : State) : Outputs :=
  { Outputs.idle with found := false, r := s.draw 0, g := s.draw 1, b := s.draw 2 }

/-- 41_lookup.md R102; `s` gives the ROM and the draws. -/
def colorRgbOutputs (s : State) (inp : Inputs) : Outputs :=
  if h : inp.code.toNat < Config.colorCount then colorFoundOutputs (readColorRom s inp.code.toNat h)
  else colorMissOutputs s

/-- The draws COLOR_RGB takes: one per component on a miss (41_lookup.md R102). -/
def colorRgbDraws (inp : Inputs) : Nat := if colorInRange inp.code then 0 else 3

/-- MODE_NAME (41_lookup.md R100). -/
def execModeName (s : State) : Result := s.complete (modeNameOutputs s.inp) 0

/-- COLOR_NAME (41_lookup.md R101). -/
def execColorName (s : State) : Result := s.complete (colorNameOutputs s.inp) 0

/-- COLOR_RGB (41_lookup.md R102). -/
def execColorRgb (s : State) : Result := s.complete (colorRgbOutputs s s.inp) (colorRgbDraws s.inp)

/-- `name(MODE_NAME, hit, index)` (41_lookup.md R104); none where `RomRead` is undefined, which no evaluation reaches. -/
def spelledModeName (s : State) (hit : Bool) (index : BitVec 4) : Option Name :=
  if hit then
    if h : index.toNat < Config.modeCount then some (readModeRom s index.toNat h) else none
  else some unknownName

/-- `name(COLOR_NAME, hit, index)`, which reads entry `index[2:0]` (41_lookup.md R104). -/
def spelledColorName (s : State) (hit : Bool) (index : BitVec 4) : Option Name :=
  if hit then
    if h : (index.extractLsb' 0 3).toNat < Config.colorCount then
      some (readColorRom s (index.extractLsb' 0 3).toNat h).name
    else none
  else some unknownName

/-- The name the selected operation spells (10_state.md R25, 41_lookup.md R104); the other operations give no name. -/
def State.spelledName (s : State) : Option Name :=
  match s.inp.op.toNat with
  | 4 => spelledModeName s s.out.nameHit s.out.nameIndex
  | 5 => spelledColorName s s.out.nameHit s.out.nameIndex
  | _ => none

end Sys2Proof.Machine
end

