-- ==== Sys2Proof/Machine/Evaluate.lean ====
section
/-! DEFINITION. One evaluation, the frame of 40_codec.md R80: all outputs as a function of the inputs, the ROMs and
the draws (92_eei_decisions.md D2), by the operation `in_op` selects (30_encoding.md R67). -/

namespace Sys2Proof.Machine

/-- The outputs for the inputs `inp` (40_codec.md R80); `s` gives the ROMs and the draws and nothing else. -/
def evaluateOutputs (s : State) (inp : Inputs) : Outputs :=
  match inp.op.toNat with
  | 0 => encGenOutputs inp
  | 1 => encLtfOutputs inp
  | 2 => decGenOutputs inp
  | 3 => decLtfOutputs inp
  | 4 => modeNameOutputs inp
  | 5 => colorNameOutputs inp
  | 6 => colorRgbOutputs s inp
  | _ => reservedOutputs

/-- The draws the evaluation of `inp` takes: only a COLOR_RGB miss takes any (10_state.md R30). -/
def evaluateDraws (inp : Inputs) : Nat :=
  match inp.op.toNat with
  | 6 => colorRgbDraws inp
  | _ => 0

/-- One evaluation of the block on the inputs `inp`. -/
def evaluateOn (inp : Inputs) (s : State) : Result := s.complete (evaluateOutputs s inp) (evaluateDraws inp)

/-- One evaluation with the command `c` on `in_command`, all other inputs as they stand: what the block does with a
command word, whatever its mode (42_modes.md R133). -/
def evaluateCommand (c : Command) (s : State) : Result := evaluateOn { s.inp with command := c } s

/-- The evaluation of a word that no row of the table names: the reserved select (60_exceptions.md R144), or a
command of an unnamed mode, which is treated like any other (42_modes.md R132). -/
def execUnlisted (u : Unlisted) (s : State) : Result :=
  match u with
  | .reservedSelect => execReserved s
  | .unnamedMode _ => evaluateCommand s.inp.command s

end Sys2Proof.Machine
end

