-- ==== Sys2Proof/Machine/Modes.lean ====
section
/-! DEFINITION. The twelve named packet modes (42_modes.md R120-R131), one meaning for each CMD16 row. The word is a
command; the block's effect on it is an evaluation with that command on `in_command`: DEC_GEN and DEC_LTF unpack it,
DEC_LTF compares its mode with 0, and the other selects do not read it (R133, 40_codec.md R80; log 5). What a mode
means to a device is outside the block (00_scope.md R5; log 12). -/

namespace Sys2Proof.Machine

/-- Mode 0, MODE_LASER_TAG_FIRE: the command `ttt00000dddddddd` (42_modes.md R120). -/
def execModeLaserTagFire (deviceId : Byte) (data : Data) (s : State) : Result :=
  evaluateCommand (packCommand data 0b00000#5 deviceId) s

/-- Mode 1, MODE_USER_PRESENCE_ANNOUNCEMENT: the command `ttt00001dddddddd` (42_modes.md R121). -/
def execModeUserPresenceAnnouncement (deviceId : Byte) (data : Data) (s : State) : Result :=
  evaluateCommand (packCommand data 0b00001#5 deviceId) s

/-- Mode 2, MODE_BASE_STATION_PRESENCE_ANNOUNCEMENT: the command `ttt00010dddddddd` (42_modes.md R122). -/
def execModeBaseStationPresenceAnnouncement (deviceId : Byte) (data : Data) (s : State) : Result :=
  evaluateCommand (packCommand data 0b00010#5 deviceId) s

/-- Mode 3, MODE_USER_TO_USER_HANDSHAKE_INITIATION: the command `ttt00011dddddddd` (42_modes.md R123). -/
def execModeUserToUserHandshakeInitiation (deviceId : Byte) (data : Data) (s : State) : Result :=
  evaluateCommand (packCommand data 0b00011#5 deviceId) s

/-- Mode 4, MODE_USER_TO_USER_HANDSHAKE_RESPONSE: the command `ttt00100dddddddd` (42_modes.md R124). -/
def execModeUserToUserHandshakeResponse (deviceId : Byte) (data : Data) (s : State) : Result :=
  evaluateCommand (packCommand data 0b00100#5 deviceId) s

/-- Mode 5, MODE_USER_TO_BASE_STATION_HANDSHAKE_INITIATION: the command `ttt00101dddddddd` (42_modes.md R125). -/
def execModeUserToBaseStationHandshakeInitiation (deviceId : Byte) (data : Data) (s : State) : Result :=
  evaluateCommand (packCommand data 0b00101#5 deviceId) s

/-- Mode 6, MODE_USER_TO_BASE_STATION_HANDSHAKE_RESPONSE: the command `ttt00110dddddddd` (42_modes.md R126). -/
def execModeUserToBaseStationHandshakeResponse (deviceId : Byte) (data : Data) (s : State) : Result :=
  evaluateCommand (packCommand data 0b00110#5 deviceId) s

/-- Mode 7, MODE_BASE_STATION_TO_USER_HANDSHAKE_INITIATION: the command `ttt00111dddddddd` (42_modes.md R127). -/
def execModeBaseStationToUserHandshakeInitiation (deviceId : Byte) (data : Data) (s : State) : Result :=
  evaluateCommand (packCommand data 0b00111#5 deviceId) s

/-- Mode 8, MODE_BASE_STATION_TO_USER_HANDSHAKE_RESPONSE: the command `ttt01000dddddddd` (42_modes.md R128). -/
def execModeBaseStationToUserHandshakeResponse (deviceId : Byte) (data : Data) (s : State) : Result :=
  evaluateCommand (packCommand data 0b01000#5 deviceId) s

/-- Mode 9, MODE_COLOR_SET_TEMPORARY: the command `ttt01001dddddddd` (42_modes.md R129). -/
def execModeColorSetTemporary (deviceId : Byte) (data : Data) (s : State) : Result :=
  evaluateCommand (packCommand data 0b01001#5 deviceId) s

/-- Mode 10, MODE_COLOR_SET_PERMANENT: the command `ttt01010dddddddd` (42_modes.md R130). -/
def execModeColorSetPermanent (deviceId : Byte) (data : Data) (s : State) : Result :=
  evaluateCommand (packCommand data 0b01010#5 deviceId) s

/-- Mode 11, MODE_GENERAL_INTERACT: the command `ttt01011dddddddd` (42_modes.md R131). -/
def execModeGeneralInteract (deviceId : Byte) (data : Data) (s : State) : Result :=
  evaluateCommand (packCommand data 0b01011#5 deviceId) s

/-- What the data field of a packet carries (42_modes.md R120-R132, 90_conflicts.md C2). -/
inductive DataMeaning where
  /-- a color code 0-7, an index of `COLOR_ROM` -/
  | colorCode
  /-- not given in the source (91_not_in_source.md N5) -/
  | notGiven
  deriving DecidableEq, Repr

/-- The data of modes 0, 9 and 10 is a color code (42_modes.md R120, R129, R130). -/
def dataMeaning (m : Mode) : DataMeaning :=
  match m.toNat with
  | 0 => .colorCode
  | 9 => .colorCode
  | 10 => .colorCode
  | _ => .notGiven

/-- The color a packet's data stands for, where its mode says that it is one. A reading for the host: the block
interprets no mode's data (42_modes.md R129, R133). -/
def packetColor (s : State) (p : Packet) : Option ColorEntry :=
  match dataMeaning p.mode with
  | .colorCode => s.colorRom[p.data.toNat]?
  | .notGiven => none

end Sys2Proof.Machine
end

