-- ==== Sys2Proof/Machine/Dispatch.lean ====
section
/-! DEFINITION. One arm per constructor of Instr. -/

namespace Sys2Proof.Machine

def exec (i : Instr) (s : State) : Host.Outcome State Fault Refusal :=
  match i with
  | .encGen => Sys2Proof.Machine.execEncGen s
  | .encLtf => Sys2Proof.Machine.execEncLtf s
  | .decGen => Sys2Proof.Machine.execDecGen s
  | .decLtf => Sys2Proof.Machine.execDecLtf s
  | .modeName => Sys2Proof.Machine.execModeName s
  | .colorName => Sys2Proof.Machine.execColorName s
  | .colorRgb => Sys2Proof.Machine.execColorRgb s
  | .modeLaserTagFire deviceId data => Sys2Proof.Machine.execModeLaserTagFire deviceId data s
  | .modeUserPresenceAnnouncement deviceId data => Sys2Proof.Machine.execModeUserPresenceAnnouncement deviceId data s
  | .modeBaseStationPresenceAnnouncement deviceId data => Sys2Proof.Machine.execModeBaseStationPresenceAnnouncement deviceId data s
  | .modeUserToUserHandshakeInitiation deviceId data => Sys2Proof.Machine.execModeUserToUserHandshakeInitiation deviceId data s
  | .modeUserToUserHandshakeResponse deviceId data => Sys2Proof.Machine.execModeUserToUserHandshakeResponse deviceId data s
  | .modeUserToBaseStationHandshakeInitiation deviceId data => Sys2Proof.Machine.execModeUserToBaseStationHandshakeInitiation deviceId data s
  | .modeUserToBaseStationHandshakeResponse deviceId data => Sys2Proof.Machine.execModeUserToBaseStationHandshakeResponse deviceId data s
  | .modeBaseStationToUserHandshakeInitiation deviceId data => Sys2Proof.Machine.execModeBaseStationToUserHandshakeInitiation deviceId data s
  | .modeBaseStationToUserHandshakeResponse deviceId data => Sys2Proof.Machine.execModeBaseStationToUserHandshakeResponse deviceId data s
  | .modeColorSetTemporary deviceId data => Sys2Proof.Machine.execModeColorSetTemporary deviceId data s
  | .modeColorSetPermanent deviceId data => Sys2Proof.Machine.execModeColorSetPermanent deviceId data s
  | .modeGeneralInteract deviceId data => Sys2Proof.Machine.execModeGeneralInteract deviceId data s

end Sys2Proof.Machine
end

