-- ==== Sys2Proof/Machine/Fetch.lean ====
section
/-! DEFINITION. Where a step finds its word, and how a host puts one there. The block fetches nothing (10_state.md
R22): the word stands on a port (log 5, log 6). -/

namespace Sys2Proof.Machine

/-- The word the step is named after: what stands on the port of the view. -/
def fetch (s : State) : PortWord :=
  match s.fetchFrom with
  | .select => .select s.inp.op
  | .command => .command s.inp.command

/-- A select that reads `in_command`: the one that stands, if it is DEC_GEN or DEC_LTF (10_state.md R24), else DEC_LTF. -/
def commandReader (op : Select) : Select := if op = 2#3 ∨ op = 3#3 then op else 3#3

/-- The host drives a word on its port. A command word also needs a select that reads it (10_state.md R24; log 6). -/
def placeWord (p : PortWord) (s : State) : State :=
  match p with
  | .select op => { s with fetchFrom := .select, inp := { s.inp with op := op } }
  | .command c =>
    { s with fetchFrom := .command, inp := { s.inp with command := c, op := commandReader s.inp.op } }

/-- A word in the table's numbering, as its port carries it. -/
def tablePort (nbits w : Nat) : PortWord :=
  if nbits ≤ 8 then .select (BitVec.ofNat 3 w) else .command (BitVec.ofNat 16 w)

end Sys2Proof.Machine
end

