-- ==== Sys2Proof/Machine/Step.lean ====
section
/-! DEFINITION. One step is one evaluation (92_eei_decisions.md D2): the word on the port of the view is decoded and
run; a word no row names is evaluated as the spec says of it. -/

namespace Sys2Proof.Machine

/-- One evaluation of the block (40_codec.md R80). -/
def step (s : State) : Host.Outcome State Fault Refusal :=
  match decode (fetch s) with
  | .ok i => exec i s
  | .error u => execUnlisted u s

/-- `s` with an instruction, numbered as the opcode table numbers it, on the port the next step reads (log 6). -/
def State.withFetchWord (s : State) (nbits w : Nat) : State := placeWord (tablePort nbits w) s

end Sys2Proof.Machine
end

