-- ==== Sys2Proof/Machine/Present.lean ====
section
/-! DEFINITION. What the host does between evaluations: it presents an evaluation on the ports (30_encoding.md R70,
70_reset_and_hazards.md R162), hands a wire pair over (60_exceptions.md R152) and re-encodes a packet. It drives only
the ports the operation names; the others keep what they hold, and have no effect (40_codec.md R80). -/

namespace Sys2Proof.Machine

/-- The row of an evaluation's mnemonic. -/
def evaluationInstr : Evaluation → Instr
  | .encGen _ _ _ _ => .encGen
  | .encLtf _ _ _ => .encLtf
  | .decGen _ _ => .decGen
  | .decLtf _ _ => .decLtf
  | .modeName _ => .modeName
  | .colorName _ => .colorName
  | .colorRgb _ => .colorRgb

/-- The operands on the ports of 10_state.md R24, and the select of 30_encoding.md R67. -/
def operandPorts (e : Evaluation) (v : Inputs) : Inputs :=
  match e with
  | .encGen b d m t =>
    { v with op := 0b000#3, blockId := BitVec.ofNat 8 b, deviceId := BitVec.ofNat 8 d, mode := BitVec.ofNat 8 m,
             data := BitVec.ofNat 8 t }
  | .encLtf b d c =>
    { v with op := 0b001#3, blockId := BitVec.ofNat 8 b, deviceId := BitVec.ofNat 8 d, data := BitVec.ofNat 8 c }
  | .decGen a c => { v with op := 0b010#3, address := BitVec.ofNat 8 a, command := BitVec.ofNat 16 c }
  | .decLtf a c => { v with op := 0b011#3, address := BitVec.ofNat 8 a, command := BitVec.ofNat 16 c }
  | .modeName m => { v with op := 0b100#3, code := BitVec.ofNat 8 m }
  | .colorName c => { v with op := 0b101#3, code := BitVec.ofNat 8 c }
  | .colorRgb c => { v with op := 0b110#3, code := BitVec.ofNat 8 c }

/-- The host presents an evaluation. One whose literal does not fit its port cannot be presented
(93_implementation_defined.md I7). -/
def State.present (s : State) (e : Evaluation) : Option State :=
  if e.wf then some { s with fetchFrom := .select, inp := operandPorts e s.inp } else none

/-- The host selects an operation, all data inputs as they stand. -/
def State.selectOp (s : State) (op : Select) : State := { s with inp := { s.inp with op := op } }

/-- The transport delivers the pair on the outputs to the inputs unchanged (an assumption about the host,
95_test_vectors.md section 3). -/
def State.deliverPair (s : State) : State :=
  { s with inp := { s.inp with address := s.out.address, command := s.out.command } }

/-- The host puts the packet on the outputs back on the encoder's inputs, each field zero-extended (30_encoding.md R64). -/
def State.returnPacket (s : State) : State :=
  { s with inp := { s.inp with blockId := s.out.blockId, deviceId := s.out.deviceId,
                               mode := s.out.mode.setWidth 8, data := s.out.data.setWidth 8 } }

end Sys2Proof.Machine
end

