-- ==== Sys2Proof/Machine/Settle.lean ====
section
/-! DEFINITION. What a host sees that samples the outputs (70_reset_and_hazards.md R165). A model observes settled
evaluations; this says what an early sample may show: anything (R161; log 9). -/

namespace Sys2Proof.Machine

/-- 80 bits as the output ports, in the order of 10_state.md R25. -/
def Outputs.ofBits (v : BitVec 80) : Outputs :=
  { address := v.extractLsb' 0 8, command := v.extractLsb' 8 16, blockId := v.extractLsb' 24 8,
    deviceId := v.extractLsb' 32 8, mode := v.extractLsb' 40 5, data := v.extractLsb' 45 3,
    matched := v.getLsbD 48, nameHit := v.getLsbD 49, nameIndex := v.extractLsb' 50 4, found := v.getLsbD 54,
    r := v.extractLsb' 55 8, g := v.extractLsb' 63 8, b := v.extractLsb' 71 8, illegal := v.getLsbD 79 }

/-- What the `n`-th sample shows, taken when the inputs have been stable for `age`: the settled outputs from `T_PD`
on, before that any value (70_reset_and_hazards.md R161, R165). `s` is the state the evaluation ended in. -/
def State.sample (s : State) (age n : Nat) : Outputs :=
  if Config.tPd ≤ age then s.out else Outputs.ofBits (Config.unsettled n)

end Sys2Proof.Machine
end

