-- ==== Sys2Proof/Machine/System.lean ====
section
/-! DEFINITION. Any number `N_INST` of instances (20_memory.md R51, 60_exceptions.md R153). They share nothing but
the read-only tables; the one counter of draws is common, so that no draw of one is a draw of another (log 10). -/

namespace Sys2Proof.Machine

/-- Instances of the block; an instance's own `draws` is not used, the system's is. -/
structure System where
  units : List State
  draws : Nat
  deriving DecidableEq, Repr

/-- Instance `k` evaluates once; where there is no instance `k`, nothing happens. -/
def System.stepAt (y : System) (k : Nat) : System :=
  match y.units[k]? with
  | none => y
  | some s =>
    match step { s with draws := y.draws } with
    | .next t => { units := y.units.set k t, draws := t.draws }
    | .fault _ => y
    | .refused _ => y

/-- The evaluations of a schedule, in its order (20_memory.md R49: any interleaving). -/
def System.run (y : System) (schedule : List Nat) : System := schedule.foldl System.stepAt y

end Sys2Proof.Machine
end

