-- ==== Sys2Proof/Safety.lean ====
section
/-! DEFINITION. The terms the claims use, written from the spec's tables of ports and flags and not from the model's
operations: what settled outputs are, output by output (10_state.md R25, R26), what an evaluation may depend on, what
a host may rely on (70_reset_and_hazards.md R163, R164). -/

namespace Sys2Proof.Machine

/-- The tables hold what they were built with (10_state.md R31, 20_memory.md R41, R42). -/
def RomsAsBuilt (s : State) : Prop := s.modeRom = builtModeRom ∧ s.colorRom = builtColorRom

/-- ENC_GEN or ENC_LTF is selected. -/
abbrev Inputs.Encodes (v : Inputs) : Prop := v.op.toNat = 0 ∨ v.op.toNat = 1

/-- DEC_GEN or DEC_LTF is selected. -/
abbrev Inputs.Decodes (v : Inputs) : Prop := v.op.toNat = 2 ∨ v.op.toNat = 3

/-- A name lookup hits (10_state.md R26). -/
abbrev Inputs.NameHit (v : Inputs) : Prop :=
  (v.op.toNat = 4 ∧ v.code.toNat < 12) ∨ (v.op.toNat = 5 ∧ v.code.toNat < 8)

/-- COLOR_RGB hits (10_state.md R26). -/
abbrev Inputs.ColorFound (v : Inputs) : Prop := v.op.toNat = 6 ∧ v.code.toNat < 8

/-- COLOR_RGB misses: the triple is unspecified (10_state.md R30). -/
abbrev Inputs.ColorMiss (v : Inputs) : Prop := v.op.toNat = 6 ∧ 8 ≤ v.code.toNat

/-- The outputs are settled: each output is the function of the inputs that 10_state.md R25, R26 and 30_encoding.md
R63, R64 give, output by output, in plain arithmetic. On a COLOR_RGB miss nothing is said of the triple. -/
structure Settled (s : State) : Prop where
  address   : s.out.address = if s.inp.Encodes then s.inp.blockId else 0
  command   : s.out.command.toNat =
                if s.inp.op.toNat = 0 then
                  s.inp.deviceId.toNat + 256 * (s.inp.mode.toNat % 32) + 8192 * (s.inp.data.toNat % 8)
                else if s.inp.op.toNat = 1 then s.inp.deviceId.toNat + 8192 * (s.inp.data.toNat % 8)
                else 0
  blockId   : s.out.blockId = if s.inp.Decodes then s.inp.address else 0
  deviceId  : s.out.deviceId.toNat = if s.inp.Decodes then s.inp.command.toNat % 256 else 0
  mode      : s.out.mode.toNat = if s.inp.Decodes then s.inp.command.toNat / 256 % 32 else 0
  data      : s.out.data.toNat = if s.inp.Decodes then s.inp.command.toNat / 8192 else 0
  matched   : s.out.matched = true ↔ s.inp.op.toNat = 3 ∧ s.inp.command.toNat / 256 % 32 = 0
  nameHit   : s.out.nameHit = true ↔ s.inp.NameHit
  nameIndex : s.out.nameIndex.toNat = if s.inp.NameHit then s.inp.code.toNat else 0
  found     : s.out.found = true ↔ s.inp.ColorFound
  triple    : ∀ e, s.inp.ColorFound → s.colorRom[s.inp.code.toNat]? = some e →
                s.out.r = e.r ∧ s.out.g = e.g ∧ s.out.b = e.b
  noTriple  : s.inp.op.toNat ≠ 6 → s.out.r = 0 ∧ s.out.g = 0 ∧ s.out.b = 0
  illegal   : s.out.illegal = true ↔ s.inp.op.toNat = 7

/-- The invariant of the block: the tables as built, the outputs settled. -/
def Inv (s : State) : Prop := RomsAsBuilt s ∧ Settled s

/-- An evaluation writes no input port and no table, and the host's view stays (10_state.md R21, R23). -/
structure OnlyOutputsChange (s t : State) : Prop where
  inp       : t.inp = s.inp
  modeRom   : t.modeRom = s.modeRom
  colorRom  : t.colorRom = s.colorRom
  fetchFrom : t.fetchFrom = s.fetchFrom

/-- Two results of one evaluation: equal, but for the triple of a COLOR_RGB miss, which is a draw of its own each
time (20_memory.md R47, R49; 10_state.md R30). -/
structure SameResult (v : Inputs) (o p : Outputs) : Prop where
  others : { o with r := p.r, g := p.g, b := p.b } = p
  triple : ¬ v.ColorMiss → o = p

/-- Two input sets agree on the select and on the ports the selected operation reads (10_state.md R24). -/
def AgreeOnRead (u v : Inputs) : Prop :=
  u.op = v.op ∧
  (u.op.toNat = 0 → u.blockId = v.blockId ∧ u.deviceId = v.deviceId ∧ u.mode = v.mode ∧ u.data = v.data) ∧
  (u.op.toNat = 1 → u.blockId = v.blockId ∧ u.deviceId = v.deviceId ∧ u.data = v.data) ∧
  (u.Decodes → u.address = v.address ∧ u.command = v.command) ∧
  (u.op.toNat = 4 ∨ u.op.toNat = 5 ∨ u.op.toNat = 6 → u.code = v.code)

/-- The row `i` of mode `k`, run under a decoding select, unpacks its own command: the device ID and the data of its
word, the mode `k`, the block ID of `in_address`; matched exactly under DEC_LTF with `k = 0` (40_codec.md R84, R85). -/
def Carries (i : Instr) (k : Nat) (d : Byte) (t : Data) (s : State) : Prop :=
  ∃ u, exec i s = .next u ∧ u.out.blockId = s.inp.address ∧ u.out.deviceId = d ∧ u.out.mode.toNat = k ∧
    u.out.data = t ∧ (u.out.matched = true ↔ s.inp.op.toNat = 3 ∧ k = 0) ∧ OnlyOutputsChange s u ∧ u.draws = s.draws

/-- The literals of an evaluation stand on their ports, under its select (30_encoding.md R67, R70; 10_state.md R24). -/
def Presented (e : Evaluation) (v : Inputs) : Prop :=
  match e with
  | .encGen b d m t => v.op.toNat = 0 ∧ v.blockId.toNat = b ∧ v.deviceId.toNat = d ∧ v.mode.toNat = m ∧ v.data.toNat = t
  | .encLtf b d c => v.op.toNat = 1 ∧ v.blockId.toNat = b ∧ v.deviceId.toNat = d ∧ v.data.toNat = c
  | .decGen a c => v.op.toNat = 2 ∧ v.address.toNat = a ∧ v.command.toNat = c
  | .decLtf a c => v.op.toNat = 3 ∧ v.address.toNat = a ∧ v.command.toNat = c
  | .modeName m => v.op.toNat = 4 ∧ v.code.toNat = m
  | .colorName c => v.op.toNat = 5 ∧ v.code.toNat = c
  | .colorRgb c => v.op.toNat = 6 ∧ v.code.toNat = c

/-- How a condition shows on the outputs (60_exceptions.md R145). -/
def Condition.Shown (c : Condition) (o : Outputs) : Prop :=
  match c with
  | .maskedOperand => o.matched = false ∧ o.nameHit = false ∧ o.found = false ∧ o.illegal = false
  | .notLaserTagFire => o.matched = false
  | .nameUnknown => o.nameHit = false ∧ o.nameIndex = 0
  | .colorNotFound => o.found = false
  | .illegalOp => o.illegal = true

/-- The host may use the triple (70_reset_and_hazards.md R163). -/
abbrev RgbUsable (s : State) : Prop := s.out.found = true

/-- The host may treat `out_data` as a laser-tag color (70_reset_and_hazards.md R163). -/
abbrev LaserTagColorUsable (s : State) : Prop := s.out.matched = true

/-- What a host checks that must not send a masked value (70_reset_and_hazards.md R164). -/
abbrev Inputs.NothingMasked (v : Inputs) : Prop :=
  (v.op.toNat = 0 → v.mode.toNat ≤ 31 ∧ v.data.toNat ≤ 7) ∧ (v.op.toNat = 1 → v.data.toNat ≤ 7)

end Sys2Proof.Machine
end

