-- ==== Sys2Proof/Certificates/Slice0/Obligations.lean ====
section
/-! DEFINITION. The statements for the provers. Each docstring names the rule of spec/ it formalises; where a clause
rests on a decision of 92_eei_decisions.md or on the model's own choice, it says so. -/

open Sys2Proof Sys2Proof.Machine

/-! ## Words and decoding -/

/-- OPSEL3 (30_encoding.md R67; the values are the spec's decision D5) and some commands (42_modes.md R120, R129, R131,
R132): the words written out decode to what they stand for. -/
def Obligations.WrittenOutWordsDecode : Prop :=
  decode (.select 0b000#3) = .ok .encGen ∧
  decode (.select 0b001#3) = .ok .encLtf ∧
  decode (.select 0b010#3) = .ok .decGen ∧
  decode (.select 0b011#3) = .ok .decLtf ∧
  decode (.select 0b100#3) = .ok .modeName ∧
  decode (.select 0b101#3) = .ok .colorName ∧
  decode (.select 0b110#3) = .ok .colorRgb ∧
  decode (.select 0b111#3) = .error .reservedSelect ∧
  decode (.command 0b100_00000_00101010#16) = .ok (.modeLaserTagFire 42 4) ∧
  decode (.command 0b010_01001_01010101#16) = .ok (.modeColorSetTemporary 85 2) ∧
  decode (.command 0b101_01011_00110100#16) = .ok (.modeGeneralInteract 52 5) ∧
  decode (.command 0b000_01100_00000000#16) = .error (.unnamedMode 12)

/-- Decoding the word of any instruction gives it back, with every operand (30_encoding.md R62, R67). -/
def Obligations.DecodeOfEncodeIsTheInstruction : Prop :=
  ∀ i : Instr, decode (encode i) = .ok i

/-- Every word that decodes is the word of its instruction: no two words share a meaning (30_encoding.md R65, R67). -/
def Obligations.EncodeOfDecodeIsTheWord : Prop :=
  ∀ (p : PortWord) (i : Instr), decode p = .ok i → encode i = p

/-- A command belongs to the row whose match it shows under the mask 0x1F00; the mode codes 0 to 11 each have a row,
12 to 31 have none and are named as unnamed modes (30_encoding.md R66; 42_modes.md R120-R132). -/
def Obligations.CommandBelongsToTheRowOfItsModeField : Prop :=
  ∀ c : Command,
    (∀ i, decode (.command c) = .ok i → c.toNat &&& 0x1F00 = i.rowMatch) ∧
    (c.toNat / 256 % 32 < 12 → ∃ i, decode (.command c) = .ok i) ∧
    (12 ≤ c.toNat / 256 % 32 →
      ∃ m : Mode, decode (.command c) = .error (.unnamedMode m) ∧ m.toNat = c.toNat / 256 % 32)

/-- Raw words that are no instruction are refused by name, and no others are: a size of neither format, a value too
wide for its port (93_implementation_defined.md I7), the reserved select (30_encoding.md R68), a command of a mode that
has no row (42_modes.md R132). That OPSEL3 takes one whole byte is the model's choice (log 7). -/
def Obligations.RawWordsAreRefusedByName : Prop :=
  ∀ n w : Nat,
    (n ≠ 8 → n ≠ 16 → decodeRaw ⟨n, w⟩ = .error (.noSuchFormat n)) ∧
    (8 ≤ w → decodeRaw ⟨8, w⟩ = .error (.tooWide 8 w)) ∧
    (65536 ≤ w → decodeRaw ⟨16, w⟩ = .error (.tooWide 16 w)) ∧
    decodeRaw ⟨8, 7⟩ = .error (.unlisted .reservedSelect) ∧
    (w < 7 → ∃ i, decodeRaw ⟨8, w⟩ = .ok i) ∧
    (w < 65536 → 12 ≤ w / 256 % 32 →
      ∃ m : Mode, decodeRaw ⟨16, w⟩ = .error (.unlisted (.unnamedMode m)) ∧ m.toNat = w / 256 % 32) ∧
    (w < 65536 → w / 256 % 32 < 12 → ∃ i, decodeRaw ⟨16, w⟩ = .ok i)

/-- A word of the table that the host places is the one the very next step decodes and runs. How a word is placed is
the model's choice (log 6). -/
def Obligations.PlacedTableWordRunsNext : Prop :=
  ∀ (s : State) (n w : Nat) (i : Instr), decodeTableWord n w = some i →
    decode (fetch (s.withFetchWord n w)) = .ok i ∧ step (s.withFetchWord n w) = exec i (s.withFetchWord n w)

/-! ## A step -/

/-- When the word the step is named after decodes, the step is that instruction. The block fetches nothing, it runs
what `in.op` selects, and there is no program counter to move (10_state.md R22); that a step is named after the word on
the port of the view, `in_op` or `in_command`, is the model's own choice (log 5). -/
def Obligations.StepRunsTheDecodedInstruction : Prop :=
  ∀ (s : State) (i : Instr), decode (fetch s) = .ok i → step s = exec i s

/-- "Each evaluation performs exactly the one operation that `in.op` selects" (10_state.md R22; the values of `in_op`
are the spec's decision D5), whichever port's word the step is named after (the view is the model's own, log 5). -/
def Obligations.StepRunsTheSelectedOperation : Prop :=
  ∀ s : State,
    (s.inp.op.toNat = 0 → step s = exec .encGen s) ∧
    (s.inp.op.toNat = 1 → step s = exec .encLtf s) ∧
    (s.inp.op.toNat = 2 → step s = exec .decGen s) ∧
    (s.inp.op.toNat = 3 → step s = exec .decLtf s) ∧
    (s.inp.op.toNat = 4 → step s = exec .modeName s) ∧
    (s.inp.op.toNat = 5 → step s = exec .colorName s) ∧
    (s.inp.op.toNat = 6 → step s = exec .colorRgb s) ∧
    (s.inp.op.toNat = 7 → step s = execReserved s)

/-- "No operation can stop, hang or divert the block" (60_exceptions.md R140): every instruction and every step
answers a next state, with every input, the select among them, as it was. -/
def Obligations.NothingStopsOrDivertsTheBlock : Prop :=
  (∀ (i : Instr) (s : State), ∃ t, exec i s = .next t ∧ t.inp = s.inp) ∧
  (∀ s : State, ∃ t, step s = .next t ∧ t.inp = s.inp)

/-- After a step from any state, every output is the function of the inputs that the tables of ports and flags give,
output by output (10_state.md R25, R26, R20). The idle value 0 is the spec's decision D8, `out_illegal` its D6. -/
def Obligations.EveryStepSettlesTheOutputs : Prop :=
  ∀ s t : State, step s = .next t → Settled t

/-- The tables as built and the outputs settled: every step keeps it (10_state.md R23, R25, R26). -/
def Obligations.StepKeepsTheInvariant : Prop :=
  ∀ s t : State, Inv s → step s = .next t → Inv t

/-- The invariant holds at reset. That the inputs are 0 there is the model's choice (log 2). -/
def Obligations.ResetMeetsTheInvariant : Prop :=
  Inv State.reset

/-- The contents of the tables "are fixed when the block is built and never change" (10_state.md R23): no run of any
length, from any state, writes a table. -/
def Obligations.NoRunWritesTheTables : Prop :=
  ∀ (n : Nat) (s t : State), Host.Core.run Sys2Proof.core n s = .next t →
    t.modeRom = s.modeRom ∧ t.colorRom = s.colorRom

/-- `MODE_ROM` after reset is the table of 20_memory.md R41, entry by entry, and has no other entry. -/
def Obligations.ResetModeRomIsTheModeTable : Prop :=
  State.reset.modeRom.toList =
    ["laser_tag_fire", "user_presence_announcement", "base_station_presence_announcement",
     "user_to_user_handshake_initiation", "user_to_user_handshake_response",
     "user_to_base_station_handshake_initiation", "user_to_base_station_handshake_response",
     "base_station_to_user_handshake_initiation", "base_station_to_user_handshake_response",
     "color_set_temporary", "color_set_permanent", "general_interact"]

/-- `COLOR_ROM` after reset is the table of 20_memory.md R42, entry by entry, and has no other entry. -/
def Obligations.ResetColorRomIsTheColorTable : Prop :=
  State.reset.colorRom.toList.map (fun e => (e.name, e.r.toNat, e.g.toNat, e.b.toNat)) =
    [("Cyan", 0, 255, 255), ("Magenta", 255, 0, 255), ("Yellow", 255, 255, 0), ("Green", 0, 255, 0),
     ("Red", 255, 0, 0), ("Blue", 0, 0, 255), ("Orange", 255, 165, 0), ("White", 255, 255, 255)]

/-- The reserved select (60_exceptions.md R144, the spec's decision D6): `out_illegal` is 1, every other output 0,
nothing else changes, and nothing stops. Draws and view are the model's own (log 4, log 5). -/
def Obligations.ReservedSelectOnlyRaisesIllegal : Prop :=
  ∀ s : State, s.inp.op.toNat = 7 → ∃ t, step s = .next t ∧
    t.out = { address := 0, command := 0, blockId := 0, deviceId := 0, mode := 0, data := 0, matched := false,
              nameHit := false, nameIndex := 0, found := false, r := 0, g := 0, b := 0, illegal := true } ∧
    OnlyOutputsChange s t ∧ t.draws = s.draws

/-- Modes 12-31 (42_modes.md R132): no row names them; they are unpacked exactly as 40_codec.md R84 says and packed
exactly as R82 says, address, device ID, mode, data and flags; DEC_LTF does not match them, and MODE_NAME gives hit 0
and "unknown". -/
def Obligations.UnnamedModesAreCarriedAndUnnamed : Prop :=
  ∀ s : State,
    (12 ≤ s.inp.command.toNat / 256 % 32 → s.inp.Decodes → ∃ t, step s = .next t ∧
      t.out.blockId = s.inp.address ∧ t.out.deviceId.toNat = s.inp.command.toNat % 256 ∧
      t.out.mode.toNat = s.inp.command.toNat / 256 % 32 ∧ t.out.data.toNat = s.inp.command.toNat / 8192 ∧
      t.out.matched = false) ∧
    (12 ≤ s.inp.mode.toNat → s.inp.mode.toNat ≤ 31 → s.inp.op.toNat = 0 → ∃ t, step s = .next t ∧
      t.out.address = s.inp.blockId ∧
      t.out.command.toNat = s.inp.deviceId.toNat + 256 * s.inp.mode.toNat + 8192 * (s.inp.data.toNat % 8) ∧
      t.out.matched = false ∧ t.out.nameHit = false ∧ t.out.found = false ∧ t.out.illegal = false ∧
      decode (.command t.out.command) = .error (.unnamedMode (s.inp.mode.setWidth 5))) ∧
    (12 ≤ s.inp.code.toNat → s.inp.code.toNat ≤ 31 → s.inp.op.toNat = 4 → ∃ t, step s = .next t ∧
      t.out.nameHit = false ∧ t.out.nameIndex = 0 ∧ t.spelledName = some "unknown")

/-- Which port's word a step is named after changes no result: the block acts on a command only through the selected
operation (42_modes.md R133). The view is the model's own (log 5). -/
def Obligations.ViewChangesNoResult : Prop :=
  ∀ (s : State) (v w : View), ∃ t u, step { s with fetchFrom := v } = .next t ∧
    step { s with fetchFrom := w } = .next u ∧ u = { t with fetchFrom := w }

/-! ## The operations -/

/-- ENC_GEN (40_codec.md R82): the address is the block ID; the command holds the device ID, the low 5 bits of `mode`
and the low 3 bits of `data`; the flags are 0. -/
def Obligations.EncGenPacksTheMaskedFields : Prop :=
  ∀ s : State, ∃ t, exec .encGen s = .next t ∧
    t.out.address = s.inp.blockId ∧
    t.out.command.toNat =
      s.inp.deviceId.toNat + 256 * (s.inp.mode.toNat % 32) + 8192 * (s.inp.data.toNat % 8) ∧
    t.out.matched = false ∧ t.out.nameHit = false ∧ t.out.found = false ∧ t.out.illegal = false

/-- ENC_LTF (40_codec.md R83): the address is the block ID; the command holds the device ID, mode 0 and the low 3 bits
of the color; the flags are 0. -/
def Obligations.EncLtfPacksTheMaskedColor : Prop :=
  ∀ s : State, ∃ t, exec .encLtf s = .next t ∧
    t.out.address = s.inp.blockId ∧
    t.out.command.toNat = s.inp.deviceId.toNat + 8192 * (s.inp.data.toNat % 8) ∧
    t.out.matched = false ∧ t.out.nameHit = false ∧ t.out.found = false ∧ t.out.illegal = false

/-- 30_encoding.md R71: ENC_LTF is ENC_GEN with mode 0 in every output port, and DEC_LTF is DEC_GEN plus the flag
`out_matched = (out_mode == 0)`. -/
def Obligations.LaserTagFormsAreTheGeneralForms : Prop :=
  ∀ s : State,
    (∃ t u, exec .encLtf s = .next t ∧ exec .encGen { s with inp := { s.inp with mode := 0 } } = .next u ∧
      t.out = u.out) ∧
    (∃ t u, exec .decLtf s = .next t ∧ exec .decGen s = .next u ∧
      t.out = { u.out with matched := u.out.mode == 0 })

/-- DEC_GEN (40_codec.md R84): block ID, device ID, mode and data of every pair, and `out_matched` stays 0. -/
def Obligations.DecGenUnpacksEveryPair : Prop :=
  ∀ s : State, ∃ t, exec .decGen s = .next t ∧
    t.out.blockId = s.inp.address ∧
    t.out.deviceId.toNat = s.inp.command.toNat % 256 ∧
    t.out.mode.toNat = s.inp.command.toNat / 256 % 32 ∧
    t.out.data.toNat = s.inp.command.toNat / 8192 ∧
    t.out.matched = false

/-- DEC_LTF (40_codec.md R85): the packet of DEC_GEN, and `out_matched` is 1 exactly when the decoded mode is 0. -/
def Obligations.DecLtfUnpacksAndMatchesModeZero : Prop :=
  ∀ s : State, ∃ t, exec .decLtf s = .next t ∧
    t.out.blockId = s.inp.address ∧
    t.out.deviceId.toNat = s.inp.command.toNat % 256 ∧
    t.out.mode.toNat = s.inp.command.toNat / 256 % 32 ∧
    t.out.data.toNat = s.inp.command.toNat / 8192 ∧
    (t.out.matched = true ↔ s.inp.command.toNat / 256 % 32 = 0)

/-- MODE_NAME (41_lookup.md R100): a code below 12 hits with its own index and spells the table's entry; any other
code, not masked, misses with index 0 and spells "unknown". Whatever the table holds. -/
def Obligations.ModeNameLooksUpTheWholeCode : Prop :=
  ∀ s : State, ∃ t, exec .modeName s = .next t ∧
    (s.inp.code.toNat < 12 → t.out.nameHit = true ∧ t.out.nameIndex.toNat = s.inp.code.toNat ∧
      spelledModeName t t.out.nameHit t.out.nameIndex = s.modeRom[s.inp.code.toNat]?) ∧
    (12 ≤ s.inp.code.toNat → t.out.nameHit = false ∧ t.out.nameIndex = 0 ∧
      spelledModeName t t.out.nameHit t.out.nameIndex = some "unknown")

/-- COLOR_NAME (41_lookup.md R101): a code below 8 hits with its own index and spells the table's entry; any other
code, not masked, misses with index 0 and spells "unknown". Whatever the table holds. -/
def Obligations.ColorNameLooksUpTheWholeCode : Prop :=
  ∀ s : State, ∃ t, exec .colorName s = .next t ∧
    (s.inp.code.toNat < 8 → t.out.nameHit = true ∧ t.out.nameIndex.toNat = s.inp.code.toNat ∧
      spelledColorName t t.out.nameHit t.out.nameIndex = s.colorRom[s.inp.code.toNat]?.map ColorEntry.name) ∧
    (8 ≤ s.inp.code.toNat → t.out.nameHit = false ∧ t.out.nameIndex = 0 ∧
      spelledColorName t t.out.nameHit t.out.nameIndex = some "unknown")

/-- COLOR_RGB (41_lookup.md R102): a code below 8 is found and drives the table's triple; any other code, not masked,
completes with `out_found` 0, its triple three draws not taken before, of whose values nothing is known (10_state.md
R30). How the draws are named and counted, `Config.draw8` at the counter `draws`, is the model's own choice (log 4). Whatever the table holds. -/
def Obligations.ColorRgbFindsOrDraws : Prop :=
  ∀ s : State, ∃ t, exec .colorRgb s = .next t ∧
    (∀ e, s.colorRom[s.inp.code.toNat]? = some e →
      t.out.found = true ∧ t.out.r = e.r ∧ t.out.g = e.g ∧ t.out.b = e.b ∧ t.draws = s.draws) ∧
    (s.inp.code.toNat < 8 → ∃ e, s.colorRom[s.inp.code.toNat]? = some e) ∧
    (8 ≤ s.inp.code.toNat → t.out.found = false ∧ t.out.r = Config.draw8 s.draws ∧
      t.out.g = Config.draw8 (s.draws + 1) ∧ t.out.b = Config.draw8 (s.draws + 2) ∧ t.draws = s.draws + 3)

/-- An operation drives the outputs 10_state.md R25 says it produces and leaves every other one at the idle value 0
(40_codec.md R80; the idle value is the spec's decision D8); only DEC_LTF drives `out_matched` (40_codec.md R84). -/
def Obligations.OperationsIdleEveryOtherOutput : Prop :=
  ∀ s t : State,
    (exec .encGen s = .next t ∨ exec .encLtf s = .next t →
      t.out = { address := t.out.address, command := t.out.command, blockId := 0, deviceId := 0, mode := 0,
                data := 0, matched := false, nameHit := false, nameIndex := 0, found := false, r := 0, g := 0,
                b := 0, illegal := false }) ∧
    (exec .decGen s = .next t →
      t.out = { address := 0, command := 0, blockId := t.out.blockId, deviceId := t.out.deviceId,
                mode := t.out.mode, data := t.out.data, matched := false, nameHit := false,
                nameIndex := 0, found := false, r := 0, g := 0, b := 0, illegal := false }) ∧
    (exec .decLtf s = .next t →
      t.out = { address := 0, command := 0, blockId := t.out.blockId, deviceId := t.out.deviceId,
                mode := t.out.mode, data := t.out.data, matched := t.out.matched, nameHit := false,
                nameIndex := 0, found := false, r := 0, g := 0, b := 0, illegal := false }) ∧
    (exec .modeName s = .next t ∨ exec .colorName s = .next t →
      t.out = { address := 0, command := 0, blockId := 0, deviceId := 0, mode := 0, data := 0, matched := false,
                nameHit := t.out.nameHit, nameIndex := t.out.nameIndex, found := false, r := 0, g := 0, b := 0,
                illegal := false }) ∧
    (exec .colorRgb s = .next t →
      t.out = { address := 0, command := 0, blockId := 0, deviceId := 0, mode := 0, data := 0, matched := false,
                nameHit := false, nameIndex := 0, found := t.out.found, r := t.out.r, g := t.out.g, b := t.out.b,
                illegal := false })

/-- The frame of all nineteen rows: no input port and no table changes, and draws are taken only where the code is
out of the color table's range (10_state.md R21, R23, R30; draws and view are the model's own, log 4 and log 5). -/
def Obligations.InstructionsChangeOnlyOutputs : Prop :=
  ∀ (i : Instr) (s t : State), exec i s = .next t →
    OnlyOutputsChange s t ∧ (t.draws = s.draws ∨ (8 ≤ s.inp.code.toNat ∧ t.draws = s.draws + 3))

/-! ## Packet modes -/

/-- The twelve named modes under DEC_GEN and DEC_LTF (42_modes.md R120-R131): each unpacks its own command, and only
mode 0 under DEC_LTF matches. The spec names no operation after a row: that a CMD16 row is run at all, as one evaluation
of its command under the select as it stands while the port `in_command` keeps its value, is the model's own choice
(log 5). -/
def Obligations.NamedModesAreUnpacked : Prop :=
  ∀ (s : State) (d : Byte) (t : Data), s.inp.Decodes →
    Carries (.modeLaserTagFire d t) 0 d t s ∧
    Carries (.modeUserPresenceAnnouncement d t) 1 d t s ∧
    Carries (.modeBaseStationPresenceAnnouncement d t) 2 d t s ∧
    Carries (.modeUserToUserHandshakeInitiation d t) 3 d t s ∧
    Carries (.modeUserToUserHandshakeResponse d t) 4 d t s ∧
    Carries (.modeUserToBaseStationHandshakeInitiation d t) 5 d t s ∧
    Carries (.modeUserToBaseStationHandshakeResponse d t) 6 d t s ∧
    Carries (.modeBaseStationToUserHandshakeInitiation d t) 7 d t s ∧
    Carries (.modeBaseStationToUserHandshakeResponse d t) 8 d t s ∧
    Carries (.modeColorSetTemporary d t) 9 d t s ∧
    Carries (.modeColorSetPermanent d t) 10 d t s ∧
    Carries (.modeGeneralInteract d t) 11 d t s

/-- The twelve named modes under every other select (10_state.md R24; 40_codec.md R80, the spec's decision D27): the
command is not read, so the evaluation is the one of the inputs as they stand. That a CMD16 row is run at all, as one
evaluation of its command under the select as it stands, is the model's own choice (log 5). -/
def Obligations.NamedModesAreIgnoredByOtherSelects : Prop :=
  ∀ (s : State) (d : Byte) (t : Data), ¬ s.inp.Decodes → ∃ u, step s = .next u ∧
    exec (.modeLaserTagFire d t) s = .next u ∧
    exec (.modeUserPresenceAnnouncement d t) s = .next u ∧
    exec (.modeBaseStationPresenceAnnouncement d t) s = .next u ∧
    exec (.modeUserToUserHandshakeInitiation d t) s = .next u ∧
    exec (.modeUserToUserHandshakeResponse d t) s = .next u ∧
    exec (.modeUserToBaseStationHandshakeInitiation d t) s = .next u ∧
    exec (.modeUserToBaseStationHandshakeResponse d t) s = .next u ∧
    exec (.modeBaseStationToUserHandshakeInitiation d t) s = .next u ∧
    exec (.modeBaseStationToUserHandshakeResponse d t) s = .next u ∧
    exec (.modeColorSetTemporary d t) s = .next u ∧
    exec (.modeColorSetPermanent d t) s = .next u ∧
    exec (.modeGeneralInteract d t) s = .next u

/-- MODE_NAME k gives the name of mode k (42_modes.md R120-R131), with the tables as built; the literals are the
source's, unaudited (D21, log 8). -/
def Obligations.ModeCodesSpellTheirNames : Prop :=
  ∀ s : State, RomsAsBuilt s → s.inp.op.toNat = 4 → s.inp.code.toNat < 12 → ∃ t, step s = .next t ∧
    t.spelledName =
      ["laser_tag_fire", "user_presence_announcement", "base_station_presence_announcement",
       "user_to_user_handshake_initiation", "user_to_user_handshake_response",
       "user_to_base_station_handshake_initiation", "user_to_base_station_handshake_response",
       "base_station_to_user_handshake_initiation", "base_station_to_user_handshake_response",
       "color_set_temporary", "color_set_permanent", "general_interact"][s.inp.code.toNat]?

/-- The color codes 0-7 give the names and triples of 20_memory.md R42, with the tables as built; the literals are
the source's, unaudited (D21, log 8). -/
def Obligations.ColorCodesGiveNameAndTriple : Prop :=
  ∀ s : State, RomsAsBuilt s → s.inp.code.toNat < 8 →
    (s.inp.op.toNat = 5 → ∃ t, step s = .next t ∧
      t.spelledName = ["Cyan", "Magenta", "Yellow", "Green", "Red", "Blue", "Orange", "White"][s.inp.code.toNat]?) ∧
    (s.inp.op.toNat = 6 → ∃ t, step s = .next t ∧
      some (t.out.r.toNat, t.out.g.toNat, t.out.b.toNat) =
        [(0, 255, 255), (255, 0, 255), (255, 255, 0), (0, 255, 0), (255, 0, 0), (0, 0, 255), (255, 165, 0),
         (255, 255, 255)][s.inp.code.toNat]?)

/-- What the encoders send (42_modes.md R120-R131, their block effects): ENC_GEN sends a command of the row of its
masked mode, ENC_LTF always one of `laser_tag_fire`, with the device ID and the masked color. -/
def Obligations.EncodersSendTheRowOfTheirMode : Prop :=
  ∀ s : State,
    (s.inp.mode.toNat % 32 < 12 → ∃ t i, exec .encGen s = .next t ∧ decode (.command t.out.command) = .ok i ∧
      i.rowMatch = 256 * (s.inp.mode.toNat % 32)) ∧
    (∃ t c, exec .encLtf s = .next t ∧
      decode (.command t.out.command) = .ok (.modeLaserTagFire s.inp.deviceId c) ∧ c.toNat = s.inp.data.toNat % 8)

/-- The data of a packet is a color code in modes 0, 9 and 10, and then it has an entry of `COLOR_ROM`; for any other
mode the source gives no meaning (42_modes.md R120, R129, R130; 90_conflicts.md C2; 91_not_in_source.md N5). -/
def Obligations.OnlyFireAndColorSetDataIsAColor : Prop :=
  ∀ (s : State) (p : Packet),
    (p.mode.toNat = 0 ∨ p.mode.toNat = 9 ∨ p.mode.toNat = 10 →
      ∃ e, packetColor s p = some e ∧ s.colorRom.toList[p.data.toNat]? = some e) ∧
    (p.mode.toNat ≠ 0 → p.mode.toNat ≠ 9 → p.mode.toNat ≠ 10 → packetColor s p = none)

/-! ## Laws of encoding and decoding -/

/-- R87 of 40_codec.md: ENC_GEN, the pair handed over unchanged, DEC_GEN: the packet comes back, `mode mod 32` and
`data mod 8`. -/
def Obligations.PacketSurvivesTheWire : Prop :=
  ∀ s : State, s.inp.op.toNat = 0 → ∃ t u, step s = .next t ∧ step (t.deliverPair.selectOp 2#3) = .next u ∧
    u.out.blockId = s.inp.blockId ∧ u.out.deviceId = s.inp.deviceId ∧
    u.out.mode.toNat = s.inp.mode.toNat % 32 ∧ u.out.data.toNat = s.inp.data.toNat % 8

/-- R88 of 40_codec.md (the spec derives it): DEC_GEN, the packet put back on the encoder's inputs, ENC_GEN: the pair
comes back, for every pair. -/
def Obligations.WirePairSurvivesThePacket : Prop :=
  ∀ s : State, s.inp.op.toNat = 2 → ∃ t u, step s = .next t ∧ step (t.returnPacket.selectOp 0#3) = .next u ∧
    u.out.address = s.inp.address ∧ u.out.command = s.inp.command

/-- R89 of 40_codec.md: sent by ENC_GEN and decoded by DEC_GEN, each field of a packet depends on its own operand
only; no change of the other three perturbs it. -/
def Obligations.FieldsAreIsolated : Prop :=
  ∀ s s' : State, s.inp.op.toNat = 0 → s'.inp.op.toNat = 0 → ∃ t t' u u',
    step s = .next t ∧ step s' = .next t' ∧
    step (t.deliverPair.selectOp 2#3) = .next u ∧ step (t'.deliverPair.selectOp 2#3) = .next u' ∧
    (s.inp.blockId = s'.inp.blockId → u.out.blockId = u'.out.blockId) ∧
    (s.inp.deviceId = s'.inp.deviceId → u.out.deviceId = u'.out.deviceId) ∧
    (s.inp.mode = s'.inp.mode → u.out.mode = u'.out.mode) ∧
    (s.inp.data = s'.inp.data → u.out.data = u'.out.data)

/-! ## What a result depends on -/

/-- An input port the selected operation does not read has no effect on any output (10_state.md R24; 40_codec.md R80,
the spec's decision D27), a miss's triple apart. -/
def Obligations.UnreadInputsHaveNoEffect : Prop :=
  ∀ (s : State) (v : Inputs), AgreeOnRead s.inp v → ∃ t u, step s = .next t ∧
    step { s with inp := v } = .next u ∧ SameResult s.inp t.out u.out

/-- No earlier evaluation has an effect: two states with the same inputs and the same tables, whatever their outputs,
views and draws, give the same outputs, a miss's triple apart (10_state.md R20; 70_reset_and_hazards.md R166). Views
and draws are the model's own (log 4, log 5). -/
def Obligations.HistoryHasNoEffect : Prop :=
  ∀ s s' : State, s'.inp = s.inp → s'.modeRom = s.modeRom → s'.colorRom = s.colorRom →
    ∃ t t', step s = .next t ∧ step s' = .next t' ∧ SameResult s.inp t.out t'.out

/-- The condition table (60_exceptions.md R145; its last row is the spec's decision D6): when each condition is
raised, and what shows it. -/
def Obligations.ConditionsAreRaisedAndShown : Prop :=
  ∀ s t : State, step s = .next t →
    (conditionOf s.inp = some .maskedOperand ↔
      (s.inp.op.toNat = 0 ∧ (32 ≤ s.inp.mode.toNat ∨ 8 ≤ s.inp.data.toNat)) ∨
      (s.inp.op.toNat = 1 ∧ 8 ≤ s.inp.data.toNat)) ∧
    (conditionOf s.inp = some .notLaserTagFire ↔ s.inp.op.toNat = 3 ∧ s.inp.command.toNat / 256 % 32 ≠ 0) ∧
    (conditionOf s.inp = some .nameUnknown ↔
      (s.inp.op.toNat = 4 ∧ 12 ≤ s.inp.code.toNat) ∨ (s.inp.op.toNat = 5 ∧ 8 ≤ s.inp.code.toNat)) ∧
    (conditionOf s.inp = some .colorNotFound ↔ s.inp.op.toNat = 6 ∧ 8 ≤ s.inp.code.toNat) ∧
    (conditionOf s.inp = some .illegalOp ↔ s.inp.op.toNat = 7) ∧
    (∀ c, conditionOf s.inp = some c → c.Shown t.out)

/-- At most one of the four flags is 1 after an evaluation (10_state.md R26; 60_exceptions.md R147, which the spec
derives). -/
def Obligations.AtMostOneFlagIsSet : Prop :=
  ∀ s t : State, step s = .next t →
    [t.out.matched, t.out.nameHit, t.out.found, t.out.illegal].count true ≤ 1

/-- What a host may rely on once it has checked the flag (70_reset_and_hazards.md R163): after a step, a found triple
is the table's, and a matched packet is of mode 0, its data a color of the table. -/
def Obligations.CheckedFlagsCanBeTrusted : Prop :=
  ∀ s t : State, step s = .next t →
    (RgbUsable t → ∃ e, s.colorRom[s.inp.code.toNat]? = some e ∧ t.out.r = e.r ∧ t.out.g = e.g ∧ t.out.b = e.b) ∧
    (LaserTagColorUsable t → t.out.mode = 0 ∧ t.out.data.toNat = s.inp.command.toNat / 8192 ∧
      ∃ e, packetColor t ⟨t.out.blockId, t.out.deviceId, t.out.mode, t.out.data⟩ = some e)

/-- A host that has pre-validated its operands (70_reset_and_hazards.md R164) sends them exactly, and the block
reports no masked operand. -/
def Obligations.PrevalidatedOperandsAreSentExactly : Prop :=
  ∀ s : State, s.inp.Encodes → s.inp.NothingMasked → ∃ t, step s = .next t ∧
    conditionOf s.inp = none ∧
    t.out.command.toNat % 256 = s.inp.deviceId.toNat ∧
    (s.inp.op.toNat = 0 → t.out.command.toNat / 256 % 32 = s.inp.mode.toNat) ∧
    t.out.command.toNat / 8192 = s.inp.data.toNat

/-- With the tables as built no entry is spelled "unknown", so the spelling alone tells a hit from a miss
(41_lookup.md R103; the port encoding is the spec's decision D9). -/
def Obligations.UnknownTellsAMissFromAHit : Prop :=
  ∀ s t : State, RomsAsBuilt s → s.inp.op.toNat = 4 ∨ s.inp.op.toNat = 5 → step s = .next t →
    (t.spelledName = some "unknown" ↔ t.out.nameHit = false) ∧ t.spelledName ≠ none

/-! ## The host and other instances -/

/-- The evaluation syntax (30_encoding.md R70, the spec's decision D22): an evaluation whose literals fit is presented,
each operand on its port, and the next step runs its operation; one that does not fit cannot be presented
(93_implementation_defined.md I7). -/
def Obligations.PresentedEvaluationsRun : Prop :=
  ∀ (s : State) (e : Evaluation),
    (e.wf = true → ∃ s', s.present e = some s' ∧ Presented e s'.inp ∧ step s' = exec (evaluationInstr e) s') ∧
    (e.wf = false → s.present e = none)

/-- Any number of instances, in any interleaving (20_memory.md R49, R51): an instance the schedule names ends with the
outputs it would have alone, a miss's triple apart, and one it does not name is untouched. The system of instances, a
list evaluated one instance at a time with one counter of draws, is the model's own choice (log 10). -/
def Obligations.AnyInterleavingGivesEachItsOwnResult : Prop :=
  ∀ (y : System) (schedule : List Nat) (k : Nat) (s : State), y.units[k]? = some s →
    (k ∉ schedule → (y.run schedule).units[k]? = some s) ∧
    (k ∈ schedule → ∃ t u, step s = .next t ∧ (y.run schedule).units[k]? = some u ∧
      OnlyOutputsChange s u ∧ SameResult s.inp t.out u.out)

/-- A sample taken once the inputs have been stable for `T_PD` shows the function of 40_codec.md R80 of the inputs, and
is settled output by output (70_reset_and_hazards.md R165; `T_PD` is the spec's open parameter, D15; that a step is an
evaluation with settled outputs and a sample is apart from it is the model's choice, log 9). -/
def Obligations.SettledSamplesShowTheResult : Prop :=
  ∀ s : State, ∃ t, step s = .next t ∧ ∀ age n : Nat, Config.tPd ≤ age →
    t.sample age n = evaluateOutputs s s.inp ∧ Settled { t with out := t.sample age n }
end

