-- ==== Sys2Proof/Laws/State.lean ====
section
/-! SUPPORT. What completing an evaluation leaves and drives, field by field, so that no later proof unfolds a
record update. -/

namespace Sys2Proof.Machine

/-- The state an evaluation completes in. -/
def State.completed (s : State) (o : Outputs) (used : Nat) : State :=
  { s with out := o, draws := s.draws + used }

theorem State.complete_eq (s : State) (o : Outputs) (used : Nat) :
    s.complete o used = .next (s.completed o used) := rfl

@[simp] theorem State.completed_inp (s : State) (o : Outputs) (n : Nat) : (s.completed o n).inp = s.inp := rfl
@[simp] theorem State.completed_out (s : State) (o : Outputs) (n : Nat) : (s.completed o n).out = o := rfl
@[simp] theorem State.completed_modeRom (s : State) (o : Outputs) (n : Nat) :
    (s.completed o n).modeRom = s.modeRom := rfl
@[simp] theorem State.completed_colorRom (s : State) (o : Outputs) (n : Nat) :
    (s.completed o n).colorRom = s.colorRom := rfl
@[simp] theorem State.completed_draws (s : State) (o : Outputs) (n : Nat) :
    (s.completed o n).draws = s.draws + n := rfl
@[simp] theorem State.completed_fetchFrom (s : State) (o : Outputs) (n : Nat) :
    (s.completed o n).fetchFrom = s.fetchFrom := rfl

/-- An evaluation completes in exactly one way. -/
theorem State.complete_next_iff (s t : State) (o : Outputs) (n : Nat) :
    s.complete o n = .next t ↔ t = s.completed o n :=
  ⟨fun h => by cases h; rfl, fun h => by rw [h]; rfl⟩

end Sys2Proof.Machine
end

