-- ==== Sys2Proof/Laws/Evaluate.lean ====
section
/-! SUPPORT. Once and for all: what each arm of `exec` is, and that a step is one evaluation of the inputs as they
stand. Later proofs cite these and unfold none of the meanings. -/

namespace Sys2Proof.Machine

/-- An evaluation completes; its state is the old one with the outputs driven and the draws counted. -/
theorem evaluateOn_eq (v : Inputs) (s : State) :
    evaluateOn v s = .next (s.completed (evaluateOutputs s v) (evaluateDraws v)) := rfl

theorem evaluateCommand_self (s : State) : evaluateCommand s.inp.command s = evaluateOn s.inp s := rfl

theorem bitVec_of_toNat {w : Nat} (v : BitVec w) {k : Nat} (h : v.toNat = k) : v = BitVec.ofNat w k := by
  rw [← h, BitVec.ofNat_toNat, BitVec.setWidth_eq]

/-- Run under its own select, an operation is the evaluation of the inputs. -/
theorem exec_of_decodeSelect {s : State} {i : Instr} (h : decodeSelect s.inp.op = .ok i) :
    exec i s = evaluateOn s.inp s := by
  unfold decodeSelect at h
  split at h <;> cases h
  all_goals
    rename_i hk
    simp only [exec, evaluateOn, evaluateOutputs, evaluateDraws, hk]
    rfl

/-- The row of a mode code evaluates the command packed from that mode and the row's operands. -/
theorem exec_of_modeInstr {m : Mode} {d : Byte} {t : Data} {i : Instr} (h : modeInstr m d t = .ok i) (s : State) :
    exec i s = evaluateCommand (packCommand t m d) s := by
  unfold modeInstr at h
  split at h <;> cases h
  all_goals
    rename_i hk
    rw [bitVec_of_toNat m hk]
    rfl

/-- A select without a row is 7, and its answer is the evaluation of the inputs. -/
theorem execUnlisted_of_decodeSelect {s : State} {u : Unlisted} (h : decodeSelect s.inp.op = .error u) :
    execUnlisted u s = evaluateOn s.inp s := by
  have lt := s.inp.op.isLt
  unfold decodeSelect at h
  split at h <;> cases h
  simp only [imp_false] at *
  have hk : s.inp.op.toNat = 7 := by omega
  simp only [execUnlisted, execReserved, evaluateOn, evaluateOutputs, evaluateDraws, hk]

/-- A command without a row is of an unnamed mode, and it is evaluated like any other. -/
theorem execUnlisted_of_modeInstr {s : State} {u : Unlisted} {m : Mode} {d : Byte} {t : Data}
    (h : modeInstr m d t = .error u) : execUnlisted u s = evaluateOn s.inp s := by
  unfold modeInstr at h
  split at h <;> cases h
  rfl

end Sys2Proof.Machine
end

