-- ==== Sys2Proof/Laws/Operands.lean ====
section
/-! SUPPORT. The operand forms and the command layout as plain arithmetic. -/

namespace Sys2Proof

theorem commandDeviceId_toNat (c : Command) : (commandDeviceId c).toNat = c.toNat % 256 := by
  simp [commandDeviceId, BitVec.extractLsb'_toNat]

theorem commandMode_toNat (c : Command) : (commandMode c).toNat = c.toNat / 256 % 32 := by
  simp [commandMode, BitVec.extractLsb'_toNat, Nat.shiftRight_eq_div_pow]

theorem commandData_toNat (c : Command) : (commandData c).toNat = c.toNat / 8192 := by
  have := c.isLt
  simp [commandData, BitVec.extractLsb'_toNat, Nat.shiftRight_eq_div_pow]
  omega

theorem packCommand_toNat (t : Data) (m : Mode) (d : Byte) :
    (packCommand t m d).toNat = d.toNat + 256 * m.toNat + 8192 * t.toNat := by
  have hd := d.isLt
  have hm := m.isLt
  have h1 : (t ++ m).toNat = m.toNat + 32 * t.toNat := by
    rw [BitVec.toNat_append, Nat.shiftLeft_eq, Nat.mul_comm, ← Nat.two_pow_add_eq_or_of_lt hm]
    omega
  rw [packCommand, BitVec.toNat_append, h1, Nat.shiftLeft_eq, Nat.mul_comm, ← Nat.two_pow_add_eq_or_of_lt hd]
  omega

theorem commandDeviceId_packCommand (t : Data) (m : Mode) (d : Byte) :
    commandDeviceId (packCommand t m d) = d := by
  apply BitVec.eq_of_toNat_eq
  have := d.isLt
  rw [commandDeviceId_toNat, packCommand_toNat]
  omega

theorem commandMode_packCommand (t : Data) (m : Mode) (d : Byte) : commandMode (packCommand t m d) = m := by
  apply BitVec.eq_of_toNat_eq
  have := d.isLt
  have := m.isLt
  rw [commandMode_toNat, packCommand_toNat]
  omega

theorem commandData_packCommand (t : Data) (m : Mode) (d : Byte) : commandData (packCommand t m d) = t := by
  apply BitVec.eq_of_toNat_eq
  have := d.isLt
  have := m.isLt
  rw [commandData_toNat, packCommand_toNat]
  omega

theorem packCommand_fields (c : Command) :
    packCommand (commandData c) (commandMode c) (commandDeviceId c) = c := by
  apply BitVec.eq_of_toNat_eq
  rw [packCommand_toNat, commandData_toNat, commandMode_toNat, commandDeviceId_toNat]
  omega

namespace Machine

theorem maskMode_toNat (v : Arg) : (maskMode v).toNat = v.toNat % 32 := by simp [maskMode]

theorem maskData_toNat (v : Arg) : (maskData v).toNat = v.toNat % 8 := by simp [maskData]

theorem modeIndex_toNat (code : Arg) (h : code.toNat < 12) : (modeIndex code).toNat = code.toNat := by
  simp [modeIndex]
  omega

theorem colorIndex_toNat (code : Arg) (h : code.toNat < 8) : (colorIndex code).toNat = code.toNat := by
  simp [colorIndex]
  omega

end Machine

end Sys2Proof
end

