-- ==== Sys2Proof/Laws/Flags.lean ====
section
/-! SUPPORT. The conditions behind the flags as plain arithmetic. -/

namespace Sys2Proof.Machine

@[simp] theorem modeInRange_iff (code : Arg) : modeInRange code = true ↔ code.toNat < 12 := by
  simp [modeInRange, Config.modeCount]

@[simp] theorem colorInRange_iff (code : Arg) : colorInRange code = true ↔ code.toNat < 8 := by
  simp [colorInRange, Config.colorCount]

theorem isLaserTagFire_iff (m : Mode) : isLaserTagFire m = true ↔ m.toNat = 0 := by
  rw [isLaserTagFire, beq_iff_eq, ← BitVec.toNat_inj]
  rfl

/-- The seven operations and the reserved select. -/
theorem select_cases (op : Select) :
    op.toNat = 0 ∨ op.toNat = 1 ∨ op.toNat = 2 ∨ op.toNat = 3 ∨ op.toNat = 4 ∨ op.toNat = 5 ∨ op.toNat = 6 ∨
      op.toNat = 7 := by
  have := op.isLt
  omega

end Sys2Proof.Machine
end

