-- ==== Sys2Proof/Laws/Operations.lean ====
section
/-! SUPPORT. What each operation drives: a lookup by its hit or miss, and the evaluation by its select. -/

namespace Sys2Proof.Machine

theorem modeNameOutputs_hit {v : Inputs} (h : v.code.toNat < 12) :
    modeNameOutputs v = { Outputs.idle with nameHit := true, nameIndex := modeIndex v.code } := by
  simp [modeNameOutputs, h]

theorem modeNameOutputs_miss {v : Inputs} (h : 12 ≤ v.code.toNat) : modeNameOutputs v = Outputs.idle := by
  simp [modeNameOutputs, Nat.not_lt.2 h]
  rfl

theorem colorNameOutputs_hit {v : Inputs} (h : v.code.toNat < 8) :
    colorNameOutputs v = { Outputs.idle with nameHit := true, nameIndex := colorIndex v.code } := by
  simp [colorNameOutputs, h]

theorem colorNameOutputs_miss {v : Inputs} (h : 8 ≤ v.code.toNat) : colorNameOutputs v = Outputs.idle := by
  simp [colorNameOutputs, Nat.not_lt.2 h]
  rfl

theorem colorRgbOutputs_hit {s : State} {v : Inputs} (h : v.code.toNat < 8) :
    colorRgbOutputs s v = colorFoundOutputs (s.colorRom[v.code.toNat]'h) := by
  rw [colorRgbOutputs, dif_pos h]
  rfl

theorem colorRgbOutputs_miss {s : State} {v : Inputs} (h : 8 ≤ v.code.toNat) :
    colorRgbOutputs s v = colorMissOutputs s :=
  dif_neg (Nat.not_lt.2 h)

theorem colorRgbDraws_hit {v : Inputs} (h : v.code.toNat < 8) : colorRgbDraws v = 0 := by simp [colorRgbDraws, h]

theorem colorRgbDraws_miss {v : Inputs} (h : 8 ≤ v.code.toNat) : colorRgbDraws v = 3 := by
  simp [colorRgbDraws, Nat.not_lt.2 h]

theorem evaluateOutputs_encGen {s : State} {v : Inputs} (h : v.op.toNat = 0) :
    evaluateOutputs s v = encGenOutputs v := by simp [evaluateOutputs, h]

theorem evaluateOutputs_encLtf {s : State} {v : Inputs} (h : v.op.toNat = 1) :
    evaluateOutputs s v = encLtfOutputs v := by simp [evaluateOutputs, h]

theorem evaluateOutputs_decGen {s : State} {v : Inputs} (h : v.op.toNat = 2) :
    evaluateOutputs s v = decGenOutputs v := by simp [evaluateOutputs, h]

theorem evaluateOutputs_decLtf {s : State} {v : Inputs} (h : v.op.toNat = 3) :
    evaluateOutputs s v = decLtfOutputs v := by simp [evaluateOutputs, h]

theorem evaluateOutputs_modeName {s : State} {v : Inputs} (h : v.op.toNat = 4) :
    evaluateOutputs s v = modeNameOutputs v := by simp [evaluateOutputs, h]

theorem evaluateOutputs_colorName {s : State} {v : Inputs} (h : v.op.toNat = 5) :
    evaluateOutputs s v = colorNameOutputs v := by simp [evaluateOutputs, h]

theorem evaluateOutputs_colorRgb {s : State} {v : Inputs} (h : v.op.toNat = 6) :
    evaluateOutputs s v = colorRgbOutputs s v := by simp [evaluateOutputs, h]

theorem evaluateOutputs_reserved {s : State} {v : Inputs} (h : v.op.toNat = 7) :
    evaluateOutputs s v = reservedOutputs := by simp [evaluateOutputs, h]

theorem evaluateDraws_colorRgb {v : Inputs} (h : v.op.toNat = 6) : evaluateDraws v = colorRgbDraws v := by
  simp [evaluateDraws, h]

theorem evaluateDraws_other {v : Inputs} (h : v.op.toNat ≠ 6) : evaluateDraws v = 0 := by
  unfold evaluateDraws
  split
  · exact absurd ‹_› h
  · rfl

theorem spelledModeName_miss (s : State) (i : BitVec 4) : spelledModeName s false i = some unknownName := rfl

theorem spelledModeName_hit (s : State) {i : BitVec 4} (h : i.toNat < 12) :
    spelledModeName s true i = s.modeRom[i.toNat]? := by
  rw [spelledModeName, if_pos rfl, dif_pos h]
  exact (Vector.getElem?_eq_getElem h).symm

theorem spelledColorName_miss (s : State) (i : BitVec 4) : spelledColorName s false i = some unknownName := rfl

theorem spelledColorName_hit (s : State) (i : BitVec 4) :
    spelledColorName s true i = s.colorRom[(i.extractLsb' 0 3).toNat]?.map ColorEntry.name := by
  have h : (i.extractLsb' 0 3).toNat < 8 := (i.extractLsb' 0 3).isLt
  rw [spelledColorName, if_pos rfl, dif_pos h, Vector.getElem?_eq_getElem h]
  rfl

/-- Entry `index[2:0]` of a color's index is the entry of its code (41_lookup.md R101, R104). -/
theorem colorIndex_entry (code : Arg) (h : code.toNat < 8) : ((colorIndex code).extractLsb' 0 3).toNat = code.toNat := by
  simp [BitVec.extractLsb'_toNat, colorIndex_toNat _ h]
  omega

end Sys2Proof.Machine
end

