-- ==== Sys2Proof/Laws/PerInstr.lean ====
section
/-! SUPPORT. Per instruction: the encoded word carries the match of its row of the opcode table under the row's mask. -/

namespace Sys2Proof.Laws.EncodeMatchesRow

/-- The word of an instruction meets the match and mask of its row (spec/opcode_table.json). -/
def Statement (i : Instr) : Prop := (encode i).raw.w &&& (encode i).rowMask = i.rowMatch

/-- The CMD16 mask keeps the mode field only (30_encoding.md R62). -/
theorem and_modeMask (x : Nat) : x &&& 0x1F00 = 256 * (x / 256 % 32) := by
  have h : x &&& 0x1F00 = (x / 2 ^ 8 % 2 ^ 5) * 2 ^ 8 := by
    apply Nat.eq_of_testBit_eq
    intro k
    rw [show (0x1F00 : Nat) = (2 ^ 5 - 1) * 2 ^ 8 from rfl]
    simp only [Nat.testBit_and, Nat.testBit_mul_two_pow, Nat.testBit_two_pow_sub_one, Nat.testBit_mod_two_pow,
      Nat.testBit_div_two_pow]
    by_cases hk : 8 ≤ k
    · simp [hk, Bool.and_comm, show k - 8 + 8 = k by omega]
    · simp [hk]
  omega

/-- Under the CMD16 mask a packed command shows its mode. -/
theorem packed (t : Data) (m : Mode) (d : Byte) : (packCommand t m d).toNat &&& 0x1F00 = 256 * m.toNat := by
  rw [and_modeMask, ← commandMode_toNat, commandMode_packCommand]

theorem encGen : Statement .encGen := rfl
theorem encLtf : Statement .encLtf := rfl
theorem decGen : Statement .decGen := rfl
theorem decLtf : Statement .decLtf := rfl
theorem modeName : Statement .modeName := rfl
theorem colorName : Statement .colorName := rfl
theorem colorRgb : Statement .colorRgb := rfl
theorem modeLaserTagFire (d : Byte) (t : Data) : Statement (.modeLaserTagFire d t) := packed t 0 d
theorem modeUserPresenceAnnouncement (d : Byte) (t : Data) : Statement (.modeUserPresenceAnnouncement d t) :=
  packed t 1 d
theorem modeBaseStationPresenceAnnouncement (d : Byte) (t : Data) :
    Statement (.modeBaseStationPresenceAnnouncement d t) := packed t 2 d
theorem modeUserToUserHandshakeInitiation (d : Byte) (t : Data) :
    Statement (.modeUserToUserHandshakeInitiation d t) := packed t 3 d
theorem modeUserToUserHandshakeResponse (d : Byte) (t : Data) :
    Statement (.modeUserToUserHandshakeResponse d t) := packed t 4 d
theorem modeUserToBaseStationHandshakeInitiation (d : Byte) (t : Data) :
    Statement (.modeUserToBaseStationHandshakeInitiation d t) := packed t 5 d
theorem modeUserToBaseStationHandshakeResponse (d : Byte) (t : Data) :
    Statement (.modeUserToBaseStationHandshakeResponse d t) := packed t 6 d
theorem modeBaseStationToUserHandshakeInitiation (d : Byte) (t : Data) :
    Statement (.modeBaseStationToUserHandshakeInitiation d t) := packed t 7 d
theorem modeBaseStationToUserHandshakeResponse (d : Byte) (t : Data) :
    Statement (.modeBaseStationToUserHandshakeResponse d t) := packed t 8 d
theorem modeColorSetTemporary (d : Byte) (t : Data) : Statement (.modeColorSetTemporary d t) := packed t 9 d
theorem modeColorSetPermanent (d : Byte) (t : Data) : Statement (.modeColorSetPermanent d t) := packed t 10 d
theorem modeGeneralInteract (d : Byte) (t : Data) : Statement (.modeGeneralInteract d t) := packed t 11 d

end Sys2Proof.Laws.EncodeMatchesRow
end

