-- ==== Sys2Proof/Laws/Step.lean ====
section
/-! SUPPORT. What a step can do, said once: whatever the view, it is one evaluation of the inputs as they stand. -/

namespace Sys2Proof.Machine

/-- A step is one evaluation of the inputs (40_codec.md R80, 10_state.md R22). -/
theorem step_eq_evaluateOn (s : State) : step s = evaluateOn s.inp s := by
  unfold step
  cases hv : s.fetchFrom <;> simp only [fetch, hv, decode]
  · cases h : decodeSelect s.inp.op with
    | ok i => exact exec_of_decodeSelect h
    | error u => exact execUnlisted_of_decodeSelect h
  · unfold decodeCommand
    cases h : modeInstr (commandMode s.inp.command) (commandDeviceId s.inp.command) (commandData s.inp.command) with
    | ok i => simp only [exec_of_modeInstr h, packCommand_fields, evaluateCommand_self]
    | error u => exact execUnlisted_of_modeInstr h

/-- The state a step answers. -/
theorem step_next_iff (s t : State) :
    step s = .next t ↔ t = s.completed (evaluateOutputs s s.inp) (evaluateDraws s.inp) := by
  rw [step_eq_evaluateOn]
  exact State.complete_next_iff s t _ _

end Sys2Proof.Machine
end

