-- ==== Sys2Proof/Tests/Slice0.lean ====
section
/-! SUPPORT. Tests: the well-formedness smoke tests, the decoding of words written out from the spec, one-step vectors
of 95_test_vectors.md, and for each statement with hypotheses a state and operands that meet them. -/

namespace Sys2Proof.Tests

open Sys2Proof Sys2Proof.Machine

/-! ## Helpers -/

/-- The reset state under other inputs. -/
def withInputs (v : Inputs) : State := { State.reset with inp := v }

/-- All inputs 0 but the select. -/
def op (k : Select) : Inputs := { State.reset.inp with op := k }

/-- The outputs an evaluation completes with. -/
def outs : Result → Option Outputs
  | .next t => some t.out
  | .fault _ => none
  | .refused _ => none

/-- The name an evaluation completes with. -/
def nameOf : Result → Option Name
  | .next t => t.spelledName
  | .fault _ => none
  | .refused _ => none

/-- The decoded instruction, where there is one. -/
def instrOf (p : PortWord) : Option Instr :=
  match decode p with
  | .ok i => some i
  | .error _ => none

/-! ## Well-formedness: an ill-formed term for each check, refused -/

theorem test_wf_encGen_refuses_each_wide_operand :
    (Evaluation.encGen 255 255 255 255).wf = true ∧ (Evaluation.encGen 256 0 0 0).wf = false ∧
      (Evaluation.encGen 0 256 0 0).wf = false ∧ (Evaluation.encGen 0 0 256 0).wf = false ∧
      (Evaluation.encGen 0 0 0 256).wf = false := by decide

theorem test_wf_encLtf_refuses_each_wide_operand :
    (Evaluation.encLtf 255 255 255).wf = true ∧ (Evaluation.encLtf 256 0 0).wf = false ∧
      (Evaluation.encLtf 0 256 0).wf = false ∧ (Evaluation.encLtf 0 0 256).wf = false := by decide

theorem test_wf_decoders_refuse_each_wide_operand :
    (Evaluation.decGen 255 65535).wf = true ∧ (Evaluation.decGen 256 0).wf = false ∧
      (Evaluation.decGen 0 65536).wf = false ∧ (Evaluation.decLtf 255 65535).wf = true ∧
      (Evaluation.decLtf 256 0).wf = false ∧ (Evaluation.decLtf 0 65536).wf = false := by decide

theorem test_wf_lookups_refuse_a_wide_code :
    (Evaluation.modeName 256).wf = false ∧ (Evaluation.colorName 256).wf = false ∧
      (Evaluation.colorRgb 256).wf = false ∧ (Evaluation.colorRgb 255).wf = true := by decide

theorem test_wf_raw_words :
    (RawWord.mk 8 7).wf = true ∧ (RawWord.mk 8 8).wf = false ∧ (RawWord.mk 16 65535).wf = true ∧
      (RawWord.mk 16 65536).wf = false ∧ (RawWord.mk 3 0).wf = false := by decide

/-! ## Decoding: a word written out from the spec for every row -/

/-- 30_encoding.md R67. -/
theorem test_decode_selects :
    instrOf (.select 0b000#3) = some .encGen ∧ instrOf (.select 0b001#3) = some .encLtf ∧
      instrOf (.select 0b010#3) = some .decGen ∧ instrOf (.select 0b011#3) = some .decLtf ∧
      instrOf (.select 0b100#3) = some .modeName ∧ instrOf (.select 0b101#3) = some .colorName ∧
      instrOf (.select 0b110#3) = some .colorRgb ∧ instrOf (.select 0b111#3) = none := by decide

/-- 42_modes.md R120-R125: `ttt`, the mode's bits, `dddddddd`; every operand bit tells itself from its neighbour. -/
theorem test_decode_commands_0_to_5 :
    instrOf (.command 0b100_00000_00101010#16) = some (.modeLaserTagFire 42 4) ∧
      instrOf (.command 0b001_00001_10000000#16) = some (.modeUserPresenceAnnouncement 128 1) ∧
      instrOf (.command 0b010_00010_00000001#16) = some (.modeBaseStationPresenceAnnouncement 1 2) ∧
      instrOf (.command 0b011_00011_01010101#16) = some (.modeUserToUserHandshakeInitiation 85 3) ∧
      instrOf (.command 0b100_00100_10101010#16) = some (.modeUserToUserHandshakeResponse 170 4) ∧
      instrOf (.command 0b101_00101_11110000#16) = some (.modeUserToBaseStationHandshakeInitiation 240 5) := by decide

/-- 42_modes.md R126-R131. -/
theorem test_decode_commands_6_to_11 :
    instrOf (.command 0b110_00110_00001111#16) = some (.modeUserToBaseStationHandshakeResponse 15 6) ∧
      instrOf (.command 0b111_00111_11111111#16) = some (.modeBaseStationToUserHandshakeInitiation 255 7) ∧
      instrOf (.command 0b000_01000_00000000#16) = some (.modeBaseStationToUserHandshakeResponse 0 0) ∧
      instrOf (.command 0b010_01001_01010101#16) = some (.modeColorSetTemporary 85 2) ∧
      instrOf (.command 0b110_01010_00010001#16) = some (.modeColorSetPermanent 17 6) ∧
      instrOf (.command 0b101_01011_00110100#16) = some (.modeGeneralInteract 52 5) := by decide

/-- 42_modes.md R132: 12 to 31 match no row. -/
theorem test_decode_unnamed_modes :
    decode (.command 0x0C00#16) = .error (.unnamedMode 12) ∧ decode (.command 0xFFFF#16) = .error (.unnamedMode 31) :=
  ⟨rfl, rfl⟩

theorem test_table_words :
    decodeTableWord 8 6 = some .colorRgb ∧ decodeTableWord 8 7 = none ∧
      decodeTableWord 16 0x802A = some (.modeLaserTagFire 42 4) ∧ decodeTableWord 24 0 = none := by decide

/-! ## One step: vectors of 95_test_vectors.md -/

/-- VG4: mode 0x3D and data 0x0B are masked. -/
theorem test_encGen_masks :
    outs (step (withInputs { op 0 with blockId := 1, deviceId := 2, mode := 0x3D, data := 0x0B })) =
      some { Outputs.idle with address := 0x01, command := 0x7D02 } := by decide

/-- VG7: mode bit 5 and data bit 3 leak into no other field. -/
theorem test_encGen_does_not_leak :
    outs (step (withInputs { op 0 with blockId := 9, mode := 0x20, data := 0x08 })) =
      some { Outputs.idle with address := 0x09 } := by decide

/-- VL3 and VU3: color 12 is sent as 4, and in_mode is not read. -/
theorem test_encLtf_masks_and_ignores_mode :
    outs (step (withInputs { op 1 with blockId := 1, deviceId := 2, mode := 0x1F, data := 0x0C })) =
      some { Outputs.idle with address := 0x01, command := 0x8002 } := by decide

/-- VD9. -/
theorem test_decGen_unpacks :
    outs (step (withInputs { op 2 with address := 0x5A, command := 0xAB34 })) =
      some { Outputs.idle with blockId := 90, deviceId := 52, mode := 11, data := 5 } := by decide

/-- VD7 and VU1: a mode of 0 is not matched by DEC_GEN, and the unread inputs have no effect. -/
theorem test_decGen_does_not_match :
    outs (step (withInputs { op 2 with address := 7, command := 0x802A, blockId := 0xFF, mode := 0xFF, code := 0xFF })) =
      some { Outputs.idle with blockId := 7, deviceId := 42, mode := 0, data := 4 } := by decide

/-- VT3. -/
theorem test_decLtf_matches :
    outs (step (withInputs { op 3 with command := 0xE0FF })) =
      some { Outputs.idle with deviceId := 255, data := 7, matched := true } := by decide

/-- VT10: only mode bit 4 set. -/
theorem test_decLtf_does_not_match :
    outs (step (withInputs { op 3 with command := 0x1000 })) = some { Outputs.idle with mode := 16 } := by decide

/-- VM12. -/
theorem test_modeName_hit :
    outs (step (withInputs { op 4 with code := 11 })) = some { Outputs.idle with nameHit := true, nameIndex := 11 } ∧
      nameOf (step (withInputs { op 4 with code := 11 })) = some "general_interact" := by decide

/-- VM17: the code is not masked. -/
theorem test_modeName_miss :
    outs (step (withInputs { op 4 with code := 139 })) = some Outputs.idle ∧
      nameOf (step (withInputs { op 4 with code := 139 })) = some "unknown" := by decide

/-- VN8. -/
theorem test_colorName_hit :
    outs (step (withInputs { op 5 with code := 7 })) = some { Outputs.idle with nameHit := true, nameIndex := 7 } ∧
      nameOf (step (withInputs { op 5 with code := 7 })) = some "White" := by decide

/-- VN11: color 12 is not masked to 4. -/
theorem test_colorName_miss :
    outs (step (withInputs { op 5 with code := 12 })) = some Outputs.idle ∧
      nameOf (step (withInputs { op 5 with code := 12 })) = some "unknown" := by decide

/-- VC7. -/
theorem test_colorRgb_found :
    outs (step (withInputs { op 6 with code := 6 })) =
      some { Outputs.idle with found := true, r := 255, g := 165, b := 0 } := by decide

/-- VC9: any triple is accepted, the flag is 0. -/
theorem test_colorRgb_miss :
    (outs (step (withInputs { op 6 with code := 8 }))).map (fun o => o.found) = some false := rfl

/-- VX2. -/
theorem test_reserved_select :
    outs (step (withInputs { op 7 with blockId := 0xFF, command := 0xFFFF, code := 4 })) =
      some { Outputs.idle with illegal := true } := by decide

/-- VT9 as a command word: MODE_COLOR_SET_TEMPORARY under DEC_LTF. -/
theorem test_mode_row_under_decLtf :
    outs (exec (.modeColorSetTemporary 85 2) (withInputs { op 3 with address := 0x20 })) =
      some { Outputs.idle with blockId := 32, deviceId := 85, mode := 9, data := 2 } := by decide

/-- S3 as a command word, placed on reset: the first step decodes and matches it. -/
theorem test_placed_command_runs :
    outs (step (State.reset.withFetchWord 16 0x802A)) =
      some { Outputs.idle with deviceId := 42, data := 4, matched := true } := by decide

/-- 42_modes.md R120: the color of the example is 4, Red. -/
theorem test_packet_color :
    packetColor State.reset ⟨7, 42, 0, 4⟩ = some ⟨"Red", 255, 0, 0⟩ ∧ packetColor State.reset ⟨7, 42, 1, 4⟩ = none := by
  decide

/-- 41_lookup.md R103: the bytes of the sentinel. -/
theorem test_unknown_bytes :
    unknownName.toList.map Char.toNat = [0x75, 0x6E, 0x6B, 0x6E, 0x6F, 0x77, 0x6E] := by decide

/-- The name lengths of 42_modes.md R120-R131 and 20_memory.md R42. -/
theorem test_name_lengths :
    builtModeRom.toList.map String.length = [14, 26, 34, 33, 31, 41, 39, 41, 39, 19, 19, 16] ∧
      builtColorRom.toList.map (fun e => e.name.length) = [4, 7, 6, 5, 3, 4, 6, 5] := by decide

/-! ## Witnesses: for each statement with hypotheses, what meets them -/

theorem witness_EncodeOfDecodeIsTheWord :
    decode (.select 6#3) = .ok .colorRgb ∧ decode (.command 0x0BFF#16) = .ok (.modeGeneralInteract 255 0) := ⟨rfl, rfl⟩

theorem witness_CommandBelongsToTheRowOfItsModeField :
    decode (.command 0xEBFF#16) = .ok (.modeGeneralInteract 255 7) ∧ (0xEBFF#16).toNat / 256 % 32 < 12 ∧
      12 ≤ (0x0C00#16).toNat / 256 % 32 ∧ 12 ≤ (0xFFFF#16).toNat / 256 % 32 := ⟨rfl, by decide⟩

theorem witness_RawWordsAreRefusedByName :
    ((9 : Nat) ≠ 8 ∧ (9 : Nat) ≠ 16) ∧ (8 : Nat) ≤ 8 ∧ (65536 : Nat) ≤ 65536 ∧ (6 : Nat) < 7 ∧
      ((0x0C00 : Nat) < 65536 ∧ 12 ≤ (0x0C00 : Nat) / 256 % 32) ∧ ((0xFFFF : Nat) < 65536 ∧ 12 ≤ (0xFFFF : Nat) / 256 % 32) ∧
      ((0xEBFF : Nat) < 65536 ∧ (0xEBFF : Nat) / 256 % 32 < 12) := by decide

theorem witness_PlacedTableWordRunsNext :
    decodeTableWord 8 0 = some .encGen ∧ decodeTableWord 16 0xEBFF = some (.modeGeneralInteract 255 7) := by decide

theorem witness_StepRunsTheDecodedInstruction :
    decode (fetch State.reset) = .ok .encGen ∧
      decode (fetch (State.reset.withFetchWord 16 0x0100)) = .ok (.modeUserPresenceAnnouncement 0 0) := ⟨rfl, rfl⟩

theorem witness_StepRunsTheSelectedOperation :
    ∀ k : Select, (withInputs (op k)).inp.op.toNat = k.toNat := by decide

theorem witness_EveryStepSettlesTheOutputs : ∃ t, step (withInputs (op 7)) = .next t := ⟨_, rfl⟩

/-- The reserved select, its answer settled. -/
theorem witness_StepKeepsTheInvariant :
    Inv { withInputs (op 7) with out := reservedOutputs } ∧
      ∃ t, step { withInputs (op 7) with out := reservedOutputs } = .next t :=
  ⟨⟨⟨rfl, rfl⟩, by constructor <;> first | decide | (intro e h; exact absurd h (by decide))⟩, _, rfl⟩

theorem witness_NoRunWritesTheTables : ∃ t, Host.Core.run Sys2Proof.core 2 State.reset = .next t := ⟨_, rfl⟩

theorem witness_ReservedSelectOnlyRaisesIllegal : (withInputs (op 7)).inp.op.toNat = 7 := rfl

theorem witness_UnnamedModesAreCarriedAndUnnamed :
    (12 ≤ ({ op 2 with command := 0x0C00 } : Inputs).command.toNat / 256 % 32 ∧
      ({ op 2 with command := 0x0C00 } : Inputs).Decodes) ∧
    (12 ≤ ({ op 3 with command := 0xFFFF } : Inputs).command.toNat / 256 % 32 ∧
      ({ op 3 with command := 0xFFFF } : Inputs).Decodes) ∧
    (12 ≤ ({ op 0 with mode := 31 } : Inputs).mode.toNat ∧ ({ op 0 with mode := 31 } : Inputs).mode.toNat ≤ 31 ∧
      (op 0).op.toNat = 0) ∧
    (12 ≤ ({ op 4 with code := 12 } : Inputs).code.toNat ∧ ({ op 4 with code := 12 } : Inputs).code.toNat ≤ 31 ∧
      (op 4).op.toNat = 4) := by decide

theorem witness_ModeNameLooksUpTheWholeCode :
    ({ op 4 with code := 11 } : Inputs).code.toNat < 12 ∧ 12 ≤ ({ op 4 with code := 12 } : Inputs).code.toNat := by decide

theorem witness_ColorNameLooksUpTheWholeCode :
    ({ op 5 with code := 7 } : Inputs).code.toNat < 8 ∧ 8 ≤ ({ op 5 with code := 8 } : Inputs).code.toNat := by decide

theorem witness_ColorRgbFindsOrDraws :
    State.reset.colorRom[(7#8).toNat]? = some ⟨"White", 255, 255, 255⟩ ∧ (7#8).toNat < 8 ∧ 8 ≤ (8#8).toNat := by decide

theorem witness_OperationsIdleEveryOtherOutput :
    (∃ t, exec .encGen State.reset = .next t) ∧ (∃ t, exec .encLtf State.reset = .next t) ∧
      (∃ t, exec .decGen State.reset = .next t) ∧ (∃ t, exec .decLtf State.reset = .next t) ∧
      (∃ t, exec .modeName State.reset = .next t) ∧ (∃ t, exec .colorName State.reset = .next t) ∧
      (∃ t, exec .colorRgb State.reset = .next t) :=
  ⟨⟨_, rfl⟩, ⟨_, rfl⟩, ⟨_, rfl⟩, ⟨_, rfl⟩, ⟨_, rfl⟩, ⟨_, rfl⟩, ⟨_, rfl⟩⟩

theorem witness_InstructionsChangeOnlyOutputs :
    (∃ t, exec (.modeGeneralInteract 255 7) State.reset = .next t) ∧
      (∃ t, exec .colorRgb (withInputs { op 6 with code := 8 }) = .next t) := ⟨⟨_, rfl⟩, ⟨_, rfl⟩⟩

theorem witness_NamedModesAreUnpacked : (op 2).Decodes ∧ (op 3).Decodes := by decide

theorem witness_NamedModesAreIgnoredByOtherSelects :
    ¬ (op 0).Decodes ∧ ¬ (op 1).Decodes ∧ ¬ (op 4).Decodes ∧ ¬ (op 7).Decodes := by decide

theorem witness_ModeCodesSpellTheirNames :
    RomsAsBuilt (withInputs { op 4 with code := 11 }) ∧ (withInputs { op 4 with code := 11 }).inp.op.toNat = 4 ∧
      (withInputs { op 4 with code := 11 }).inp.code.toNat < 12 := ⟨⟨rfl, rfl⟩, by decide⟩

theorem witness_ColorCodesGiveNameAndTriple :
    RomsAsBuilt (withInputs { op 5 with code := 7 }) ∧ (withInputs { op 5 with code := 7 }).inp.code.toNat < 8 ∧
      (withInputs { op 5 with code := 7 }).inp.op.toNat = 5 ∧ RomsAsBuilt (withInputs { op 6 with code := 0 }) ∧
      (withInputs { op 6 with code := 0 }).inp.op.toNat = 6 := ⟨⟨rfl, rfl⟩, by decide, rfl, ⟨rfl, rfl⟩, rfl⟩

theorem witness_EncodersSendTheRowOfTheirMode :
    (withInputs { op 0 with mode := 0x2B }).inp.mode.toNat % 32 < 12 := by decide

theorem witness_OnlyFireAndColorSetDataIsAColor :
    (Packet.mk 0 0 10 7).mode.toNat = 10 ∧ (Packet.mk 0 0 11 7).mode.toNat ≠ 0 ∧
      (Packet.mk 0 0 11 7).mode.toNat ≠ 9 ∧ (Packet.mk 0 0 11 7).mode.toNat ≠ 10 := by decide

theorem witness_PacketSurvivesTheWire : (withInputs { op 0 with mode := 0x3D }).inp.op.toNat = 0 := rfl

theorem witness_WirePairSurvivesThePacket : (withInputs { op 2 with command := 0xFFFF }).inp.op.toNat = 2 := rfl

/-- Two packets that agree in no field but the block ID, and two that agree in all the others. -/
theorem witness_FieldsAreIsolated :
    (withInputs { op 0 with deviceId := 255, mode := 31, data := 7 }).inp.op.toNat = 0 ∧
      (withInputs (op 0)).inp.op.toNat = 0 ∧
      (withInputs { op 0 with deviceId := 255, mode := 31, data := 7 }).inp.blockId = (withInputs (op 0)).inp.blockId ∧
      ({ op 0 with blockId := 1 } : Inputs).deviceId = (op 0).deviceId ∧
      ({ op 0 with blockId := 1 } : Inputs).mode = (op 0).mode ∧
      ({ op 0 with blockId := 1 } : Inputs).data = (op 0).data := by decide

/-- VU1's two input sets. -/
theorem witness_UnreadInputsHaveNoEffect :
    AgreeOnRead { op 2 with address := 7, command := 0x802A, blockId := 0xFF, mode := 0xFF, code := 0xFF }
      { op 2 with address := 7, command := 0x802A } := by
  unfold AgreeOnRead
  decide

/-- VX3: the reserved select ran before, its outputs still stand. -/
theorem witness_HistoryHasNoEffect :
    ({ State.reset with out := reservedOutputs, draws := 5, fetchFrom := .command } : State).inp = State.reset.inp ∧
      ({ State.reset with out := reservedOutputs, draws := 5, fetchFrom := .command } : State).modeRom =
        State.reset.modeRom ∧
      ({ State.reset with out := reservedOutputs, draws := 5, fetchFrom := .command } : State).colorRom =
        State.reset.colorRom := ⟨rfl, rfl, rfl⟩

/-- Each condition at the edge of its range, and just inside it. -/
theorem witness_ConditionsAreRaisedAndShown :
    (∃ t, step (withInputs { op 0 with mode := 32 }) = .next t) ∧
      conditionOf { op 0 with mode := 32 } = some .maskedOperand ∧
      conditionOf { op 0 with mode := 31, data := 7 } = none ∧
      conditionOf { op 1 with mode := 32, data := 8 } = some .maskedOperand ∧
      conditionOf { op 3 with command := 0x0100 } = some .notLaserTagFire ∧
      conditionOf { op 4 with code := 12 } = some .nameUnknown ∧ conditionOf { op 4 with code := 11 } = none ∧
      conditionOf { op 5 with code := 8 } = some .nameUnknown ∧
      conditionOf { op 6 with code := 8 } = some .colorNotFound ∧ conditionOf (op 7) = some .illegalOp :=
  ⟨⟨_, rfl⟩, by decide⟩

theorem witness_AtMostOneFlagIsSet : ∃ t, step (withInputs (op 3)) = .next t ∧ t.out.matched = true :=
  ⟨_, rfl, by decide⟩

theorem witness_CheckedFlagsCanBeTrusted :
    (∃ t, step (withInputs { op 6 with code := 7 }) = .next t ∧ RgbUsable t) ∧
      (∃ t, step (withInputs { op 3 with command := 0xE0FF }) = .next t ∧ LaserTagColorUsable t) :=
  ⟨⟨_, rfl, by decide⟩, ⟨_, rfl, by decide⟩⟩

theorem witness_PrevalidatedOperandsAreSentExactly :
    ((op 0).Encodes ∧ ({ op 0 with mode := 31, data := 7 } : Inputs).NothingMasked) ∧
      ((op 1).Encodes ∧ ({ op 1 with mode := 255, data := 7 } : Inputs).NothingMasked) := by decide

theorem witness_UnknownTellsAMissFromAHit :
    RomsAsBuilt (withInputs (op 4)) ∧ (withInputs (op 4)).inp.op.toNat = 4 ∧ (∃ t, step (withInputs (op 4)) = .next t) ∧
      (withInputs (op 5)).inp.op.toNat = 5 ∧ (∃ t, step (withInputs (op 5)) = .next t) :=
  ⟨⟨rfl, rfl⟩, rfl, ⟨_, rfl⟩, rfl, ⟨_, rfl⟩⟩

theorem witness_PresentedEvaluationsRun :
    (Evaluation.encGen 7 42 0 4).wf = true ∧ (Evaluation.colorRgb 261).wf = false := by decide

theorem witness_AnyInterleavingGivesEachItsOwnResult :
    ({ units := [State.reset, withInputs (op 6)], draws := 0 } : System).units[1]? = some (withInputs (op 6)) ∧
      1 ∈ [0, 1, 0, 1] ∧ 1 ∉ [0, 0] := ⟨rfl, by decide, by decide⟩

theorem witness_SettledSamplesShowTheResult :
    (∃ t, step State.reset = .next t) ∧ Config.tPd ≤ Config.tPd + 1 := ⟨⟨_, rfl⟩, Nat.le_succ _⟩

end Sys2Proof.Tests
end

section
/-! SUPPORT. The rules of one evaluation that the statements about the state are derived from: what an evaluation
leaves unchanged, which inputs an instruction evaluates, what a result depends on. -/

namespace Sys2Proof.Machine

/-- Completing an evaluation is a frame (10_state.md R21, R23). -/
theorem onlyOutputsChange_completed (s : State) (o : Outputs) (n : Nat) : OnlyOutputsChange s (s.completed o n) :=
  ⟨rfl, rfl, rfl, rfl⟩

theorem step_next (s : State) :
    step s = .next (s.completed (evaluateOutputs s s.inp) (evaluateDraws s.inp)) :=
  step_eq_evaluateOn s

theorem step_onlyOutputsChange {s t : State} (h : step s = .next t) : OnlyOutputsChange s t := by
  rw [(step_next_iff s t).1 h]
  exact onlyOutputsChange_completed ..

/-- What the last evaluation drove stands on the outputs, as the function of the inputs that still stand. -/
theorem step_out {s t : State} (h : step s = .next t) : t.out = evaluateOutputs s t.inp := by
  rw [(step_next_iff s t).1 h, State.completed_out, State.completed_inp]

theorem RomsAsBuilt.of_onlyOutputsChange {s t : State} (hs : RomsAsBuilt s) (h : OnlyOutputsChange s t) :
    RomsAsBuilt t :=
  ⟨h.modeRom.trans hs.1, h.colorRom.trans hs.2⟩

/-- The inputs with one port's word exchanged. -/
def Inputs.withWord (v : Inputs) : PortWord → Inputs
  | .select op => { v with op := op }
  | .command c => { v with command := c }

@[simp] theorem Inputs.withWord_code (v : Inputs) (p : PortWord) : (v.withWord p).code = v.code := by
  cases p <;> rfl

/-- An instruction is the evaluation of the inputs with its own word on its port. -/
theorem exec_eq_evaluateOn (i : Instr) (s : State) : exec i s = evaluateOn (s.inp.withWord (encode i)) s := by
  cases i <;> rfl

theorem exec_next_iff (i : Instr) (s t : State) :
    exec i s = .next t ↔
      t = s.completed (evaluateOutputs s (s.inp.withWord (encode i))) (evaluateDraws (s.inp.withWord (encode i))) := by
  rw [exec_eq_evaluateOn]
  exact State.complete_next_iff ..

/-- Draws are taken only where the code is out of the color table's range, and then three (10_state.md R30). -/
theorem evaluateDraws_cases (v : Inputs) : evaluateDraws v = 0 ∨ (8 ≤ v.code.toNat ∧ evaluateDraws v = 3) := by
  by_cases hop : v.op.toNat = 6
  · rw [evaluateDraws_colorRgb hop]
    rcases Nat.lt_or_ge v.code.toNat 8 with hit | miss
    · exact .inl (colorRgbDraws_hit hit)
    · exact .inr ⟨miss, colorRgbDraws_miss miss⟩
  · exact .inl (evaluateDraws_other hop)

/-- Of the state, an evaluation reads `COLOR_ROM`, and on a COLOR_RGB miss the draws (10_state.md R25, R30). -/
theorem evaluateOutputs_congr {s s' : State} {v : Inputs} (hrom : s'.colorRom = s.colorRom) (hmiss : ¬ v.ColorMiss) :
    evaluateOutputs s v = evaluateOutputs s' v := by
  by_cases hop : v.op.toNat = 6
  · have hit : v.code.toNat < 8 := Nat.not_le.1 fun hge => hmiss ⟨hop, hge⟩
    simp only [evaluateOutputs_colorRgb hop, colorRgbOutputs_hit hit, hrom]
  · unfold evaluateOutputs
    split
    case h_7 hsix => exact absurd hsix hop
    all_goals rfl

end Sys2Proof.Machine
end

section
/-! SUPPORT. Each operation settles its outputs: what it drives as plain arithmetic, and then `Settled`, one lemma per
select value. -/

namespace Sys2Proof.Machine

theorem encGenOutputs_command_toNat (v : Inputs) :
    (encGenOutputs v).command.toNat =
      v.deviceId.toNat + 256 * (v.mode.toNat % 32) + 8192 * (v.data.toNat % 8) := by
  rw [← maskMode_toNat, ← maskData_toNat]
  exact packCommand_toNat ..

theorem encLtfOutputs_command_toNat (v : Inputs) :
    (encLtfOutputs v).command.toNat = v.deviceId.toNat + 8192 * (v.data.toNat % 8) := by
  rw [← maskData_toNat]
  exact packCommand_toNat (maskData v.data) Config.ltfMode v.deviceId

theorem isLaserTagFire_commandMode_iff (c : Command) :
    isLaserTagFire (commandMode c) = true ↔ c.toNat / 256 % 32 = 0 := by
  rw [isLaserTagFire_iff, commandMode_toNat]

theorem settled_of_encGen {s : State} (hop : s.inp.op.toNat = 0) (hout : s.out = encGenOutputs s.inp) :
    Settled s := by
  have hcommand := encGenOutputs_command_toNat s.inp
  rw [← hout] at hcommand
  constructor
  case command => simp [hop, hcommand]
  all_goals
    simp [Inputs.Encodes, Inputs.Decodes, Inputs.NameHit, Inputs.ColorFound, hop, hout, encGenOutputs, pairOutputs,
      Outputs.idle, encodePacket, generalPacket]

theorem settled_of_encLtf {s : State} (hop : s.inp.op.toNat = 1) (hout : s.out = encLtfOutputs s.inp) :
    Settled s := by
  have hcommand := encLtfOutputs_command_toNat s.inp
  rw [← hout] at hcommand
  constructor
  case command => simp [hop, hcommand]
  all_goals
    simp [Inputs.Encodes, Inputs.Decodes, Inputs.NameHit, Inputs.ColorFound, hop, hout, encLtfOutputs, pairOutputs,
      Outputs.idle, encodePacket, laserTagPacket]

theorem settled_of_decGen {s : State} (hop : s.inp.op.toNat = 2) (hout : s.out = decGenOutputs s.inp) :
    Settled s := by
  constructor <;>
    simp [Inputs.Encodes, Inputs.Decodes, Inputs.NameHit, Inputs.ColorFound, hop, hout, decGenOutputs, packetOutputs,
      Outputs.idle, decodePacket, receivedPair, commandDeviceId_toNat, commandMode_toNat, commandData_toNat]

theorem settled_of_decLtf {s : State} (hop : s.inp.op.toNat = 3) (hout : s.out = decLtfOutputs s.inp) :
    Settled s := by
  constructor <;>
    simp [Inputs.Encodes, Inputs.Decodes, Inputs.NameHit, Inputs.ColorFound, hop, hout, decLtfOutputs, packetOutputs,
      Outputs.idle, decodePacket, receivedPair, commandDeviceId_toNat, commandMode_toNat, commandData_toNat,
      isLaserTagFire_commandMode_iff]

theorem settled_of_modeName {s : State} (hop : s.inp.op.toNat = 4) (hout : s.out = modeNameOutputs s.inp) :
    Settled s := by
  rcases Nat.lt_or_ge s.inp.code.toNat 12 with hit | miss
  · rw [modeNameOutputs_hit hit] at hout
    constructor <;>
      simp [Inputs.Encodes, Inputs.Decodes, Inputs.NameHit, Inputs.ColorFound, hop, hout, Outputs.idle, hit,
        modeIndex_toNat]
  · rw [modeNameOutputs_miss miss] at hout
    constructor <;>
      simp [Inputs.Encodes, Inputs.Decodes, Inputs.NameHit, Inputs.ColorFound, hop, hout, Outputs.idle,
        Nat.not_lt.2 miss]

theorem settled_of_colorName {s : State} (hop : s.inp.op.toNat = 5) (hout : s.out = colorNameOutputs s.inp) :
    Settled s := by
  rcases Nat.lt_or_ge s.inp.code.toNat 8 with hit | miss
  · rw [colorNameOutputs_hit hit] at hout
    constructor <;>
      simp [Inputs.Encodes, Inputs.Decodes, Inputs.NameHit, Inputs.ColorFound, hop, hout, Outputs.idle, hit,
        colorIndex_toNat]
  · rw [colorNameOutputs_miss miss] at hout
    constructor <;>
      simp [Inputs.Encodes, Inputs.Decodes, Inputs.NameHit, Inputs.ColorFound, hop, hout, Outputs.idle,
        Nat.not_lt.2 miss]

/-- The table the evaluation read is the one that stands. -/
theorem settled_of_colorRgb {s t : State} (hop : t.inp.op.toNat = 6) (hrom : t.colorRom = s.colorRom)
    (hout : t.out = colorRgbOutputs s t.inp) : Settled t := by
  rcases Nat.lt_or_ge t.inp.code.toNat 8 with hit | miss
  · rw [colorRgbOutputs_hit hit] at hout
    constructor
    case triple =>
      intro e _ he
      rw [hrom, Vector.getElem?_eq_getElem hit, Option.some.injEq] at he
      simp [hout, colorFoundOutputs, he]
    all_goals
      simp [Inputs.Encodes, Inputs.Decodes, Inputs.NameHit, Inputs.ColorFound, hop, hout, colorFoundOutputs,
        Outputs.idle, hit]
  · rw [colorRgbOutputs_miss miss] at hout
    constructor
    case triple => exact fun e hfound => absurd hfound.2 (Nat.not_lt.2 miss)
    all_goals
      simp [Inputs.Encodes, Inputs.Decodes, Inputs.NameHit, Inputs.ColorFound, hop, hout, colorMissOutputs,
        Outputs.idle, Nat.not_lt.2 miss]

theorem settled_of_reserved {s : State} (hop : s.inp.op.toNat = 7) (hout : s.out = reservedOutputs) : Settled s := by
  constructor <;>
    simp [Inputs.Encodes, Inputs.Decodes, Inputs.NameHit, Inputs.ColorFound, hop, hout, reservedOutputs,
      Outputs.idle]

/-- Whatever state gave the draws: outputs that are the evaluation of the standing inputs are settled. -/
theorem settled_of_out_eq {s t : State} (hrom : t.colorRom = s.colorRom) (hout : t.out = evaluateOutputs s t.inp) :
    Settled t := by
  rcases select_cases t.inp.op with hop | hop | hop | hop | hop | hop | hop | hop
  · exact settled_of_encGen hop (hout.trans (evaluateOutputs_encGen hop))
  · exact settled_of_encLtf hop (hout.trans (evaluateOutputs_encLtf hop))
  · exact settled_of_decGen hop (hout.trans (evaluateOutputs_decGen hop))
  · exact settled_of_decLtf hop (hout.trans (evaluateOutputs_decLtf hop))
  · exact settled_of_modeName hop (hout.trans (evaluateOutputs_modeName hop))
  · exact settled_of_colorName hop (hout.trans (evaluateOutputs_colorName hop))
  · exact settled_of_colorRgb hop hrom (hout.trans (evaluateOutputs_colorRgb hop))
  · exact settled_of_reserved hop (hout.trans (evaluateOutputs_reserved hop))

/-- Settles O10: by `step_out` the outputs are the evaluation of the inputs that stand, and each operation settles
them. -/
theorem everyStepSettlesTheOutputs : Obligations.EveryStepSettlesTheOutputs := fun _ _ h =>
  settled_of_out_eq (step_onlyOutputsChange h).colorRom (step_out h)

/-- Settles O11: the step's frame keeps the tables, O10 settles the outputs. -/
theorem stepKeepsTheInvariant : Obligations.StepKeepsTheInvariant := fun s t hinv h =>
  ⟨hinv.1.of_onlyOutputsChange (step_onlyOutputsChange h), everyStepSettlesTheOutputs s t h⟩

/-- The reset state is settled already: its own evaluation answers it again (log 3). -/
theorem step_reset : step State.reset = .next State.reset := rfl

/-- Settles O12: reset is the state a step from reset answers. -/
theorem resetMeetsTheInvariant : Obligations.ResetMeetsTheInvariant :=
  ⟨⟨rfl, rfl⟩, everyStepSettlesTheOutputs _ _ step_reset⟩

end Sys2Proof.Machine
end

section
/-! SUPPORT. A step, a run and a comparison of two steps, from the rules of one evaluation. -/

namespace Sys2Proof.Machine

/-- Settles O28: an instruction is one evaluation, whose frame and draws are known. -/
theorem instructionsChangeOnlyOutputs : Obligations.InstructionsChangeOnlyOutputs := by
  intro i s t h
  have hdraws := evaluateDraws_cases (s.inp.withWord (encode i))
  rw [Inputs.withWord_code] at hdraws
  rw [(exec_next_iff i s t).1 h]
  refine ⟨onlyOutputsChange_completed .., hdraws.imp (fun hzero => ?_) (fun hthree => ⟨hthree.1, ?_⟩)⟩
  · rw [State.completed_draws, hzero, Nat.add_zero]
  · rw [State.completed_draws, hthree.2]

/-- Settles O7: the decoded branch of `step`, whose other branch needs a word without a row. -/
theorem stepRunsTheDecodedInstruction : Obligations.StepRunsTheDecodedInstruction := by
  intro s i h
  simp only [step, h]

/-- Settles O8: a step and the selected operation are the same evaluation of the inputs. -/
theorem stepRunsTheSelectedOperation : Obligations.StepRunsTheSelectedOperation := by
  intro s
  have runs {k : Nat} {i : Instr} (hi : decodeSelect (BitVec.ofNat 3 k) = .ok i) (hk : s.inp.op.toNat = k) :
      step s = exec i s := by
    rw [← bitVec_of_toNat _ hk] at hi
    rw [step_eq_evaluateOn, exec_of_decodeSelect hi]
  refine ⟨runs rfl, runs rfl, runs rfl, runs rfl, runs rfl, runs rfl, runs rfl, fun hseven => ?_⟩
  have hreserved : decodeSelect s.inp.op = .error .reservedSelect := by
    rw [bitVec_of_toNat _ hseven]
    rfl
  rw [step_eq_evaluateOn, ← execUnlisted_of_decodeSelect hreserved, execUnlisted]

theorem decodeTableWord_eq_some {n w : Nat} {i : Instr} (h : decodeTableWord n w = some i) :
    ∃ p, RawWord.toPort ⟨n, w⟩ = .ok p ∧ decode p = .ok i := by
  unfold decodeTableWord decodeRaw at h
  cases hport : RawWord.toPort ⟨n, w⟩ with
  | error e => simp [hport] at h
  | ok p =>
    refine ⟨p, rfl, ?_⟩
    cases hp : decode p with
    | error u => simp [hport, hp] at h
    | ok j => simpa [hport, hp] using h

/-- A raw word that fits its port is placed on that port. -/
theorem tablePort_of_toPort {n w : Nat} {p : PortWord} (h : RawWord.toPort ⟨n, w⟩ = .ok p) : tablePort n w = p := by
  unfold RawWord.toPort at h
  split at h
  case isFalse => split at h <;> cases h
  case isTrue hwf =>
    have hsize : n = 8 ∨ n = 16 := by
      simp only [RawWord.wf, Bool.or_eq_true, Bool.and_eq_true, beq_iff_eq] at hwf
      exact hwf.imp And.left And.left
    rcases hsize with rfl | rfl <;> cases h <;> rfl

theorem fetch_placeWord (p : PortWord) (s : State) : fetch (placeWord p s) = p := by
  cases p <;> rfl

/-- Settles O6: the word goes to the port its size belongs to, and there it is fetched. -/
theorem placedTableWordRunsNext : Obligations.PlacedTableWordRunsNext := by
  intro s n w i h
  obtain ⟨p, hport, hdecode⟩ := decodeTableWord_eq_some h
  have hfetch : decode (fetch (s.withFetchWord n w)) = .ok i := by
    rw [State.withFetchWord, tablePort_of_toPort hport, fetch_placeWord, hdecode]
  exact ⟨hfetch, stepRunsTheDecodedInstruction _ _ hfetch⟩

theorem core_run_succ_next_iff (n : Nat) (s t : State) :
    Host.Core.run Sys2Proof.core (n + 1) s = .next t ↔
      ∃ u, step s = .next u ∧ Host.Core.run Sys2Proof.core n u = .next t := by
  have hrun : Host.Core.run Sys2Proof.core (n + 1) s =
      Host.Core.run Sys2Proof.core n (s.completed (evaluateOutputs s s.inp) (evaluateDraws s.inp)) := by
    simp only [Host.Core.run, core, step_next]
  simp [hrun, step_next_iff]

/-- What every step keeps, every run keeps. -/
theorem core_run_keeps {P : State → Prop} (hstep : ∀ s t, P s → step s = .next t → P t) :
    ∀ {n : Nat} {s t : State}, P s → Host.Core.run Sys2Proof.core n s = .next t → P t
  | 0, _, _, hs, h => by cases h; exact hs
  | n + 1, s, t, hs, h => by
    obtain ⟨u, hu, hrun⟩ := (core_run_succ_next_iff n s t).1 h
    exact core_run_keeps hstep (hstep s u hs hu) hrun

/-- Settles O13: a step's frame keeps the tables, so every run does. -/
theorem noRunWritesTheTables : Obligations.NoRunWritesTheTables := by
  intro n s t
  refine core_run_keeps (P := fun u => u.modeRom = s.modeRom ∧ u.colorRom = s.colorRom) ?_ ⟨rfl, rfl⟩
  intro u v hu h
  have hframe := step_onlyOutputsChange h
  exact ⟨hframe.modeRom.trans hu.1, hframe.colorRom.trans hu.2⟩

/-- Only the decoders read `in_command` (10_state.md R24). -/
theorem evaluateOutputs_withCommand {v : Inputs} (hv : ¬ v.Decodes) (s : State) (c : Command) :
    evaluateOutputs s { v with command := c } = evaluateOutputs s v := by
  unfold evaluateOutputs
  dsimp only
  split
  case h_3 hop => exact absurd (.inl hop) hv
  case h_4 hop => exact absurd (.inr hop) hv
  all_goals rfl

theorem exec_of_modeInstr_of_not_decodes {s : State} (hs : ¬ s.inp.Decodes) {m : Mode} {d : Byte} {t : Data}
    {i : Instr} (hi : modeInstr m d t = .ok i) : exec i s = step s := by
  rw [exec_of_modeInstr hi, evaluateCommand, evaluateOn_eq, evaluateOutputs_withCommand hs, step_next]
  rfl

/-- Settles O30: a mode row evaluates a command that the select does not read. -/
theorem namedModesAreIgnoredByOtherSelects : Obligations.NamedModesAreIgnoredByOtherSelects := by
  intro s d t hs
  have row (m : Mode) {i : Instr} (hi : modeInstr m d t = .ok i) :
      exec i s = .next (s.completed (evaluateOutputs s s.inp) (evaluateDraws s.inp)) :=
    (exec_of_modeInstr_of_not_decodes hs hi).trans (step_next s)
  exact ⟨_, step_next s, row 0 rfl, row 1 rfl, row 2 rfl, row 3 rfl, row 4 rfl, row 5 rfl, row 6 rfl, row 7 rfl,
    row 8 rfl, row 9 rfl, row 10 rfl, row 11 rfl⟩

theorem SameResult.of_eq {v : Inputs} {o p : Outputs} (h : o = p) : SameResult v o p := by
  subst h
  exact ⟨rfl, fun _ => rfl⟩

/-- On a miss only the triple can differ, elsewhere nothing (20_memory.md R49). -/
theorem evaluateOutputs_sameResult {s s' : State} (v : Inputs) (hrom : s'.colorRom = s.colorRom) :
    SameResult v (evaluateOutputs s v) (evaluateOutputs s' v) := by
  by_cases hmiss : v.ColorMiss
  · simp only [evaluateOutputs_colorRgb hmiss.1, colorRgbOutputs_miss hmiss.2]
    exact ⟨rfl, fun h => absurd hmiss h⟩
  · exact .of_eq (evaluateOutputs_congr hrom hmiss)

/-- Settles O39: both steps are the evaluation of the same inputs. -/
theorem historyHasNoEffect : Obligations.HistoryHasNoEffect := by
  intro s s' hinp _ hrom
  refine ⟨_, _, step_next s, step_next s', ?_⟩
  rw [State.completed_out, State.completed_out, hinp]
  exact evaluateOutputs_sameResult s.inp hrom

/-- Settles O41: settled flags belong to different selects. -/
theorem atMostOneFlagIsSet : Obligations.AtMostOneFlagIsSet := by
  intro s t h
  have hset : Settled t := everyStepSettlesTheOutputs s t h
  have hcount : [t.out.matched, t.out.nameHit, t.out.found, t.out.illegal].count true =
      (if t.inp.op.toNat = 7 then 1 else 0) + (if t.inp.ColorFound then 1 else 0) +
        (if t.inp.NameHit then 1 else 0) +
          (if t.inp.op.toNat = 3 ∧ t.inp.command.toNat / 256 % 32 = 0 then 1 else 0) := by
    simp [List.count_cons, hset.matched, hset.nameHit, hset.found, hset.illegal]
  rw [hcount]
  (repeat' split) <;> omega

end Sys2Proof.Machine
end

section
/-! SUPPORT. The color table under a step, and a schedule over a system of units (20_memory.md). -/

namespace Sys2Proof.Machine

/-- Settles O14: the reset table, written out. -/
theorem resetModeRomIsTheModeTable : Obligations.ResetModeRomIsTheModeTable := rfl

/-- Settles O15: the reset table, written out. -/
theorem resetColorRomIsTheColorTable : Obligations.ResetColorRomIsTheColorTable := rfl

/-- The name and the triple of an entry as plain values, in the order of 20_memory.md R42. -/
def ColorEntry.listed (e : ColorEntry) : Name × Nat × Nat × Nat := (e.name, e.r.toNat, e.g.toNat, e.b.toNat)

/-- Whatever the table holds, a COLOR_NAME hit spells the entry of its code (41_lookup.md R101, R104). -/
theorem step_colorName_spelledName {s t : State} (h : step s = .next t) (hop : s.inp.op.toNat = 5)
    (hit : s.inp.code.toNat < 8) : t.spelledName = s.colorRom[s.inp.code.toNat]?.map ColorEntry.name := by
  rw [(step_next_iff s t).1 h, evaluateOutputs_colorName hop, colorNameOutputs_hit hit]
  simp only [State.spelledName, State.completed_inp, State.completed_out, hop, spelledColorName_hit,
    State.completed_colorRom, colorIndex_entry _ hit]

/-- Whatever the table holds, a COLOR_RGB hit drives the triple of the entry of its code (41_lookup.md R102). -/
theorem step_colorRgb_triple {s t : State} (h : step s = .next t) (hop : s.inp.op.toNat = 6)
    (hit : s.inp.code.toNat < 8) :
    some (t.out.r.toNat, t.out.g.toNat, t.out.b.toNat) =
      s.colorRom[s.inp.code.toNat]?.map (fun e => (e.r.toNat, e.g.toNat, e.b.toNat)) := by
  rw [(step_next_iff s t).1 h, evaluateOutputs_colorRgb hop, colorRgbOutputs_hit hit, Vector.getElem?_eq_getElem hit]
  rfl

/-- A column of the table as built is that column of the list O15 compares it with. -/
theorem builtColorRom_column {α : Type} (f : Name × Nat × Nat × Nat → α) (k : Nat) :
    builtColorRom[k]?.map (f ∘ ColorEntry.listed) = ((builtColorRom.toList.map ColorEntry.listed).map f)[k]? := by
  simp

/-- Settles O32: a hit gives the entry of its code, and O15 lists the entries. -/
theorem colorCodesGiveNameAndTriple : Obligations.ColorCodesGiveNameAndTriple := by
  intro s hroms hit
  have htable : builtColorRom.toList.map ColorEntry.listed = _ := resetColorRomIsTheColorTable
  refine ⟨fun hop => ⟨_, step_next s, ?_⟩, fun hop => ⟨_, step_next s, ?_⟩⟩
  · rw [step_colorName_spelledName (step_next s) hop hit, hroms.2]
    exact (builtColorRom_column Prod.fst _).trans (by rw [htable]; rfl)
  · rw [step_colorRgb_triple (step_next s) hop hit, hroms.2]
    exact (builtColorRom_column Prod.snd _).trans (by rw [htable]; rfl)

theorem OnlyOutputsChange.refl (s : State) : OnlyOutputsChange s s := ⟨rfl, rfl, rfl, rfl⟩

theorem OnlyOutputsChange.trans {s t u : State} (hst : OnlyOutputsChange s t) (htu : OnlyOutputsChange t u) :
    OnlyOutputsChange s u :=
  ⟨htu.inp.trans hst.inp, htu.modeRom.trans hst.modeRom, htu.colorRom.trans hst.colorRom,
    htu.fetchFrom.trans hst.fetchFrom⟩

/-- The state in which a unit ends an evaluation that takes the system's draws from `n` on (log 10). -/
def State.evaluatedAt (s : State) (n : Nat) : State :=
  { s with draws := n }.completed (evaluateOutputs { s with draws := n } s.inp) (evaluateDraws s.inp)

theorem onlyOutputsChange_evaluatedAt (s : State) (n : Nat) : OnlyOutputsChange s (s.evaluatedAt n) :=
  ⟨rfl, rfl, rfl, rfl⟩

/-- A unit with the inputs and the tables of `s` ends its evaluation with the result of `s`, whatever it drove
before and whatever has been drawn. -/
theorem evaluatedAt_sameResult {s u : State} (h : OnlyOutputsChange s u) (n : Nat) :
    SameResult s.inp (evaluateOutputs s s.inp) (u.evaluatedAt n).out := by
  rw [State.evaluatedAt, State.completed_out, h.inp]
  exact evaluateOutputs_sameResult s.inp h.colorRom

namespace System

theorem stepAt_eq {y : System} {k : Nat} {s : State} (hs : y.units[k]? = some s) :
    y.stepAt k = ⟨y.units.set k (s.evaluatedAt y.draws), y.draws + evaluateDraws s.inp⟩ := by
  simp only [stepAt, hs, step_next]
  rfl

theorem stepAt_of_none {y : System} {k : Nat} (hk : y.units[k]? = none) : y.stepAt k = y := by
  simp only [stepAt, hk]

theorem stepAt_units_self {y : System} {k : Nat} {s : State} (hs : y.units[k]? = some s) :
    (y.stepAt k).units[k]? = some (s.evaluatedAt y.draws) := by
  obtain ⟨hlt, -⟩ := List.getElem?_eq_some_iff.1 hs
  rw [stepAt_eq hs, List.getElem?_set_self hlt]

theorem stepAt_units_ne (y : System) {j k : Nat} (hne : j ≠ k) : (y.stepAt j).units[k]? = y.units[k]? := by
  cases hj : y.units[j]? with
  | none => rw [stepAt_of_none hj]
  | some s => rw [stepAt_eq hj, List.getElem?_set_ne hne]

theorem run_cons (y : System) (j : Nat) (schedule : List Nat) :
    y.run (j :: schedule) = (y.stepAt j).run schedule := rfl

theorem run_append (y : System) (before after : List Nat) :
    y.run (before ++ after) = (y.run before).run after :=
  List.foldl_append

theorem run_units_of_notMem (y : System) {k : Nat} {schedule : List Nat} (hk : k ∉ schedule) :
    (y.run schedule).units[k]? = y.units[k]? := by
  induction schedule generalizing y with
  | nil => rfl
  | cons j rest ih =>
    have hne : j ≠ k := fun h => hk (h ▸ List.mem_cons_self)
    have hrest : k ∉ rest := fun h => hk (List.mem_cons_of_mem j h)
    rw [run_cons, ih _ hrest, stepAt_units_ne y hne]

/-- What a unit's every evaluation keeps, every schedule keeps of that unit. -/
theorem run_keeps {P : State → Prop} (hP : ∀ u n, P u → P (u.evaluatedAt n)) (y : System) {k : Nat} {u : State}
    (hu : y.units[k]? = some u) (hPu : P u) (schedule : List Nat) :
    ∃ v, (y.run schedule).units[k]? = some v ∧ P v := by
  induction schedule generalizing y u with
  | nil => exact ⟨u, hu, hPu⟩
  | cons j rest ih =>
    rw [run_cons]
    by_cases hjk : j = k
    · subst hjk
      exact ih _ (stepAt_units_self hu) (hP u _ hPu)
    · exact ih _ ((stepAt_units_ne y hjk).trans hu) hPu

end System

/-- A unit with the inputs, the tables and the view of `s`, and the result `s` has alone. -/
def HasResultOf (s u : State) : Prop := OnlyOutputsChange s u ∧ SameResult s.inp (evaluateOutputs s s.inp) u.out

theorem hasResultOf_evaluatedAt {s u : State} (h : OnlyOutputsChange s u) (n : Nat) :
    HasResultOf s (u.evaluatedAt n) :=
  ⟨h.trans (onlyOutputsChange_evaluatedAt u n), evaluatedAt_sameResult h n⟩

/-- Settles O46: what a schedule runs before the unit's own evaluation keeps its inputs and tables, that evaluation
gives its result, and what is run after it keeps the result. -/
theorem anyInterleavingGivesEachItsOwnResult : Obligations.AnyInterleavingGivesEachItsOwnResult := by
  intro y schedule k s hs
  refine ⟨fun hk => (y.run_units_of_notMem hk).trans hs, fun hk => ?_⟩
  obtain ⟨before, after, rfl⟩ := List.append_of_mem hk
  obtain ⟨u, hu, hframe⟩ := y.run_keeps (P := OnlyOutputsChange s)
    (fun u n h => h.trans (onlyOutputsChange_evaluatedAt u n)) hs (.refl s) before
  obtain ⟨v, hv, hkept, hresult⟩ := System.run_keeps (P := HasResultOf s)
    (fun u n h => hasResultOf_evaluatedAt h.1 n) _ (System.stepAt_units_self hu) (hasResultOf_evaluatedAt hframe _) after
  rw [System.run_append, System.run_cons]
  exact ⟨_, v, step_next s, hv, hkept, hresult⟩

end Sys2Proof.Machine
end

section
/-! SUPPORT. The decoder and the encoder, row by row and once: what a select and a mode code decode to and which word
that row has, then the same of the words on a port and of raw words (30_encoding.md). -/

namespace Sys2Proof.Machine

/-- The select values of the seven operations (30_encoding.md R67). -/
theorem decodeSelect_operation {op : Select} (hop : op.toNat < 7) :
    ∃ i, decodeSelect op = .ok i ∧ encode i = .select op := by
  rcases select_cases op with hk | hk | hk | hk | hk | hk | hk | hk
  case inr.inr.inr.inr.inr.inr.inr => omega
  all_goals
    rw [bitVec_of_toNat op hk]
    exact ⟨_, rfl, rfl⟩

/-- The mode codes of the twelve rows (42_modes.md R120-R131). -/
theorem modeInstr_named {m : Mode} (hm : m.toNat < 12) (d : Byte) (t : Data) :
    ∃ i, modeInstr m d t = .ok i ∧ encode i = .command (packCommand t m d) ∧ i.rowMatch = 256 * m.toNat := by
  unfold modeInstr
  split
  case h_13 =>
    simp only [imp_false] at *
    omega
  all_goals
    rename_i hk
    rw [bitVec_of_toNat m hk]
    exact ⟨_, rfl, rfl, rfl⟩

/-- The mode codes without a row (42_modes.md R132). -/
theorem modeInstr_unnamed {m : Mode} (hm : 12 ≤ m.toNat) (d : Byte) (t : Data) :
    modeInstr m d t = .error (.unnamedMode m) := by
  unfold modeInstr
  split
  case h_13 => rfl
  all_goals omega

theorem decode_packCommand (t : Data) (m : Mode) (d : Byte) :
    decode (.command (packCommand t m d)) = modeInstr m d t := by
  rw [decode, decodeCommand, commandMode_packCommand, commandDeviceId_packCommand, commandData_packCommand]

theorem decode_command_named {c : Command} (hc : c.toNat / 256 % 32 < 12) :
    ∃ i, decode (.command c) = .ok i ∧ encode i = .command c ∧ i.rowMatch = 256 * (c.toNat / 256 % 32) := by
  rw [← commandMode_toNat] at hc
  have hrow := modeInstr_named hc (commandDeviceId c) (commandData c)
  rwa [packCommand_fields, commandMode_toNat] at hrow

theorem decode_command_unnamed {c : Command} (hc : 12 ≤ c.toNat / 256 % 32) :
    decode (.command c) = .error (.unnamedMode (commandMode c)) := by
  rw [← commandMode_toNat] at hc
  exact modeInstr_unnamed hc ..

/-- Settles O2: a select row by its one word, a mode row because the packed command shows the row's mode and gives
the two operands back. -/
theorem decodeOfEncodeIsTheInstruction : Obligations.DecodeOfEncodeIsTheInstruction := by
  intro i
  cases i with
  | encGen | encLtf | decGen | decLtf | modeName | colorName | colorRgb => rfl
  | modeLaserTagFire | modeUserPresenceAnnouncement | modeBaseStationPresenceAnnouncement
  | modeUserToUserHandshakeInitiation | modeUserToUserHandshakeResponse
  | modeUserToBaseStationHandshakeInitiation | modeUserToBaseStationHandshakeResponse
  | modeBaseStationToUserHandshakeInitiation | modeBaseStationToUserHandshakeResponse
  | modeColorSetTemporary | modeColorSetPermanent | modeGeneralInteract => exact decode_packCommand ..

theorem encode_of_decodeSelect {op : Select} {i : Instr} (h : decodeSelect op = .ok i) : encode i = .select op := by
  rcases Nat.lt_or_ge op.toNat 7 with hop | hop
  · obtain ⟨j, hj, hword⟩ := decodeSelect_operation hop
    cases hj.symm.trans h
    exact hword
  · have hseven : op.toNat = 7 := by omega
    rw [bitVec_of_toNat op hseven] at h
    cases h

/-- What a command decodes to is the row of its mode code, with its own word. -/
theorem row_of_decode_command {c : Command} {i : Instr} (h : decode (.command c) = .ok i) :
    encode i = .command c ∧ i.rowMatch = 256 * (c.toNat / 256 % 32) := by
  rcases Nat.lt_or_ge (c.toNat / 256 % 32) 12 with hc | hc
  · obtain ⟨j, hj, hrow⟩ := decode_command_named hc
    cases hj.symm.trans h
    exact hrow
  · rw [decode_command_unnamed hc] at h
    cases h

/-- Settles O3: on either port, the row a word decodes to has that word. -/
theorem encodeOfDecodeIsTheWord : Obligations.EncodeOfDecodeIsTheWord := by
  intro p i h
  cases p with
  | select op => exact encode_of_decodeSelect h
  | command c => exact (row_of_decode_command h).1

/-- Settles O4: the mask keeps the mode field, which is the row's match. -/
theorem commandBelongsToTheRowOfItsModeField : Obligations.CommandBelongsToTheRowOfItsModeField := by
  intro c
  refine ⟨fun i h => ?_, fun hc => ?_, fun hc => ⟨_, decode_command_unnamed hc, commandMode_toNat c⟩⟩
  · rw [Laws.EncodeMatchesRow.and_modeMask, (row_of_decode_command h).2]
  · obtain ⟨i, hi, -⟩ := decode_command_named hc
    exact ⟨i, hi⟩

@[simp] theorem fits_iff (width n : Nat) : fits width n = true ↔ n < 2 ^ width := decide_eq_true_iff

theorem toPort_raw (p : PortWord) : p.raw.toPort = .ok p := by
  have hwf : p.raw.wf = true := by
    cases p with
    | select op => simp [PortWord.raw, RawWord.wf, op.isLt]
    | command c => simp [PortWord.raw, RawWord.wf, c.isLt]
  rw [RawWord.toPort, if_pos hwf]
  cases p <;> simp [PortWord.raw]

theorem toPort_of_not_wf {r : RawWord} (hwf : ¬ r.wf) (hsize : r.nbits = 8 ∨ r.nbits = 16) :
    r.toPort = .error (.tooWide r.nbits r.w) := by
  rw [RawWord.toPort, if_neg hwf, if_pos hsize]

theorem toPort_of_not_format {r : RawWord} (hsize : ¬ (r.nbits = 8 ∨ r.nbits = 16)) :
    r.toPort = .error (.noSuchFormat r.nbits) := by
  have hwf : ¬ r.wf := by
    simp only [RawWord.wf, Bool.or_eq_true, Bool.and_eq_true, beq_iff_eq]
    exact fun h => hsize (h.imp And.left And.left)
  rw [RawWord.toPort, if_neg hwf, if_neg hsize]

theorem decodeRaw_of_toPort_error {r : RawWord} {e : DecodeRefusal} (h : r.toPort = .error e) :
    decodeRaw r = .error e := by
  rw [decodeRaw, h]

/-- A raw word that a port carries decodes as that port's word. -/
theorem decodeRaw_raw_ok {p : PortWord} {i : Instr} (h : decode p = .ok i) : decodeRaw p.raw = .ok i := by
  simp only [decodeRaw, toPort_raw, h]

/-- A raw word that a port carries and no row names is refused by that name. -/
theorem decodeRaw_raw_error {p : PortWord} {u : Unlisted} (h : decode p = .error u) :
    decodeRaw p.raw = .error (.unlisted u) := by
  simp only [decodeRaw, toPort_raw, h]

/-- Settles O5: the sizes and the values that reach no port, then every word on a port by its row. -/
theorem rawWordsAreRefusedByName : Obligations.RawWordsAreRefusedByName := by
  intro n w
  refine ⟨fun h8 h16 => decodeRaw_of_toPort_error (toPort_of_not_format (not_or.2 ⟨h8, h16⟩)),
    fun hw => decodeRaw_of_toPort_error (toPort_of_not_wf ?_ (.inl rfl)),
    fun hw => decodeRaw_of_toPort_error (toPort_of_not_wf ?_ (.inr rfl)), rfl, fun hw => ?_, fun hw hmode => ?_,
    fun hw hmode => ?_⟩
  · simpa [RawWord.wf] using hw
  · simpa [RawWord.wf] using hw
  · obtain ⟨op, rfl⟩ : ∃ op : Select, op.toNat = w := ⟨.ofNatLT w (by omega), rfl⟩
    obtain ⟨i, hi, -⟩ := decodeSelect_operation hw
    exact ⟨i, decodeRaw_raw_ok (p := .select op) hi⟩
  · obtain ⟨c, rfl⟩ : ∃ c : Command, c.toNat = w := ⟨.ofNatLT w hw, rfl⟩
    exact ⟨_, decodeRaw_raw_error (decode_command_unnamed hmode), commandMode_toNat c⟩
  · obtain ⟨c, rfl⟩ : ∃ c : Command, c.toNat = w := ⟨.ofNatLT w hw, rfl⟩
    obtain ⟨i, hi, -⟩ := decode_command_named hmode
    exact ⟨i, decodeRaw_raw_ok hi⟩

end Sys2Proof.Machine
end

section
/-! SUPPORT. The evaluation syntax on the ports (30_encoding.md R70), and the laser tag forms (R71). -/

namespace Sys2Proof.Machine

theorem toNat_ofNat_of_fits {width n : Nat} (h : fits width n = true) : (BitVec.ofNat width n).toNat = n :=
  (BitVec.toNat_ofNat n width).trans (Nat.mod_eq_of_lt ((fits_iff width n).1 h))

/-- Literals that fit stand on their ports by value. -/
theorem presented_operandPorts {e : Evaluation} (he : e.wf = true) (v : Inputs) : Presented e (operandPorts e v) := by
  cases e with simp only [Evaluation.wf, Bool.and_eq_true] at he
  | encGen =>
    obtain ⟨⟨⟨hblock, hdevice⟩, hmode⟩, hdata⟩ := he
    exact ⟨rfl, toNat_ofNat_of_fits hblock, toNat_ofNat_of_fits hdevice, toNat_ofNat_of_fits hmode,
      toNat_ofNat_of_fits hdata⟩
  | encLtf =>
    obtain ⟨⟨hblock, hdevice⟩, hcolor⟩ := he
    exact ⟨rfl, toNat_ofNat_of_fits hblock, toNat_ofNat_of_fits hdevice, toNat_ofNat_of_fits hcolor⟩
  | decGen | decLtf =>
    obtain ⟨haddress, hcommand⟩ := he
    exact ⟨rfl, toNat_ofNat_of_fits haddress, toNat_ofNat_of_fits hcommand⟩
  | modeName | colorName | colorRgb => exact ⟨rfl, toNat_ofNat_of_fits he⟩

theorem present_of_wf {e : Evaluation} (he : e.wf = true) (s : State) :
    s.present e = some { s with fetchFrom := .select, inp := operandPorts e s.inp } :=
  if_pos he

/-- The select that an evaluation drives is the word of its mnemonic's row (30_encoding.md R67). -/
theorem decode_select_operandPorts (e : Evaluation) (v : Inputs) :
    decode (.select (operandPorts e v).op) = .ok (evaluationInstr e) := by
  cases e <;> rfl

/-- Settles O45: the literals stand on their ports, and the select is the word of the evaluation's row. -/
theorem presentedEvaluationsRun : Obligations.PresentedEvaluationsRun := by
  intro s e
  refine ⟨fun he => ⟨_, present_of_wf he s, presented_operandPorts he s.inp, ?_⟩, fun he => ?_⟩
  · exact stepRunsTheDecodedInstruction _ _ (decode_select_operandPorts e s.inp)
  · rw [State.present, he]
    rfl

/-- Settles O1: each word is evaluated by the decoder. -/
theorem writtenOutWordsDecode : Obligations.WrittenOutWordsDecode :=
  ⟨rfl, rfl, rfl, rfl, rfl, rfl, rfl, rfl, rfl, rfl, rfl, rfl⟩

theorem encLtfOutputs_eq (v : Inputs) : encLtfOutputs v = encGenOutputs { v with mode := 0 } := rfl

theorem decLtfOutputs_eq (v : Inputs) :
    decLtfOutputs v = { decGenOutputs v with matched := (decGenOutputs v).mode == 0 } := rfl

/-- Settles O21: both forms complete with outputs that agree as R71 says. -/
theorem laserTagFormsAreTheGeneralForms : Obligations.LaserTagFormsAreTheGeneralForms := fun s =>
  ⟨⟨_, _, rfl, rfl, encLtfOutputs_eq s.inp⟩, ⟨_, _, rfl, rfl, decLtfOutputs_eq s.inp⟩⟩

end Sys2Proof.Machine
end

section
/-! SUPPORT. The codec (40_codec.md): what each operation packs or unpacks, which outputs it leaves idle, the two round
trips between a packet and a wire pair, and the inputs an evaluation reads. -/

namespace Sys2Proof.Machine

/-- Settles O19: `encGenOutputs_command_toNat` gives the command. -/
theorem encGenPacksTheMaskedFields : Obligations.EncGenPacksTheMaskedFields := fun s =>
  ⟨_, rfl, rfl, encGenOutputs_command_toNat s.inp, rfl, rfl, rfl, rfl⟩

/-- Settles O20: `encLtfOutputs_command_toNat` gives the command. -/
theorem encLtfPacksTheMaskedColor : Obligations.EncLtfPacksTheMaskedColor := fun s =>
  ⟨_, rfl, rfl, encLtfOutputs_command_toNat s.inp, rfl, rfl, rfl, rfl⟩

/-- Settles O22: each field is its slice of the command. -/
theorem decGenUnpacksEveryPair : Obligations.DecGenUnpacksEveryPair := fun s =>
  ⟨_, rfl, rfl, commandDeviceId_toNat s.inp.command, commandMode_toNat s.inp.command,
    commandData_toNat s.inp.command, rfl⟩

/-- Settles O23: the slices of DEC_GEN, and the flag compares the mode's slice with 0. -/
theorem decLtfUnpacksAndMatchesModeZero : Obligations.DecLtfUnpacksAndMatchesModeZero := fun s =>
  ⟨_, rfl, rfl, commandDeviceId_toNat s.inp.command, commandMode_toNat s.inp.command,
    commandData_toNat s.inp.command, isLaserTagFire_commandMode_iff s.inp.command⟩

/-! ## Idle outputs -/

theorem modeNameOutputs_eq_idle_with (v : Inputs) :
    modeNameOutputs v = { Outputs.idle with
      nameHit := (modeNameOutputs v).nameHit, nameIndex := (modeNameOutputs v).nameIndex } := by
  rcases Nat.lt_or_ge v.code.toNat 12 with hit | miss
  · rw [modeNameOutputs_hit hit]
  · rw [modeNameOutputs_miss miss]

theorem colorNameOutputs_eq_idle_with (v : Inputs) :
    colorNameOutputs v = { Outputs.idle with
      nameHit := (colorNameOutputs v).nameHit, nameIndex := (colorNameOutputs v).nameIndex } := by
  rcases Nat.lt_or_ge v.code.toNat 8 with hit | miss
  · rw [colorNameOutputs_hit hit]
  · rw [colorNameOutputs_miss miss]

theorem colorRgbOutputs_eq_idle_with (s : State) (v : Inputs) :
    colorRgbOutputs s v = { Outputs.idle with
      found := (colorRgbOutputs s v).found, r := (colorRgbOutputs s v).r, g := (colorRgbOutputs s v).g,
      b := (colorRgbOutputs s v).b } := by
  rcases Nat.lt_or_ge v.code.toNat 8 with hit | miss
  · rw [colorRgbOutputs_hit hit]
    rfl
  · rw [colorRgbOutputs_miss miss]
    rfl

/-- Settles O27: a codec operation drives its ports over idle outputs outright, a lookup on its hit and on its miss. -/
theorem operationsIdleEveryOtherOutput : Obligations.OperationsIdleEveryOtherOutput := by
  refine fun s t => ⟨?encoders, fun h => ?decGen, fun h => ?decLtf, ?names, fun h => ?colorRgb⟩
  case encoders => rintro (h | h) <;> cases h <;> rfl
  case decGen => cases h; rfl
  case decLtf => cases h; rfl
  case names =>
    rintro (h | h) <;> cases h
    · exact modeNameOutputs_eq_idle_with s.inp
    · exact colorNameOutputs_eq_idle_with s.inp
  case colorRgb =>
    cases h
    exact colorRgbOutputs_eq_idle_with s s.inp

/-! ## Round trips -/

theorem decodePacket_encodePacket (p : Packet) : decodePacket (encodePacket p) = p := by
  simp only [decodePacket, encodePacket, commandDeviceId_packCommand, commandMode_packCommand,
    commandData_packCommand]

theorem encodePacket_decodePacket (w : WirePair) : encodePacket (decodePacket w) = w := by
  simp only [encodePacket, decodePacket, packCommand_fields]

/-- The wire pair on the output ports. -/
def Outputs.pair (o : Outputs) : WirePair := ⟨o.address, o.command⟩

/-- The packet on the output ports. -/
def Outputs.packet (o : Outputs) : Packet := ⟨o.blockId, o.deviceId, o.mode, o.data⟩

theorem step_encGen {s : State} (hop : s.inp.op.toNat = 0) :
    ∃ t, step s = .next t ∧ t.out.pair = encodePacket (generalPacket s.inp) := by
  refine ⟨_, step_next s, ?_⟩
  rw [State.completed_out, evaluateOutputs_encGen hop]
  rfl

theorem step_decGen {s : State} (hop : s.inp.op.toNat = 2) :
    ∃ t, step s = .next t ∧ t.out.packet = decodePacket (receivedPair s.inp) := by
  refine ⟨_, step_next s, ?_⟩
  rw [State.completed_out, evaluateOutputs_decGen hop]
  rfl

theorem receivedPair_deliverPair (t : State) (op : Select) :
    receivedPair (t.deliverPair.selectOp op).inp = t.out.pair := rfl

/-- The encoder's mask undoes the zero-extension of a returned packet (30_encoding.md R64, 40_codec.md R82). -/
theorem generalPacket_returnPacket (t : State) (op : Select) :
    generalPacket (t.returnPacket.selectOp op).inp = t.out.packet := by
  have hmode : maskMode (t.out.mode.setWidth 8) = t.out.mode := by simp [maskMode]
  have hdata : maskData (t.out.data.setWidth 8) = t.out.data := by simp [maskData]
  simp only [generalPacket, State.selectOp, State.returnPacket, hmode, hdata, Outputs.packet]

/-- What ENC_GEN sends, DEC_GEN gives back (40_codec.md R87). -/
theorem step_encGen_step_decGen {s : State} (hop : s.inp.op.toNat = 0) :
    ∃ t u, step s = .next t ∧ step (t.deliverPair.selectOp 2#3) = .next u ∧
      u.out.packet = generalPacket s.inp := by
  obtain ⟨t, ht, hsent⟩ := step_encGen hop
  obtain ⟨u, hu, hdecoded⟩ := step_decGen (s := t.deliverPair.selectOp 2#3) rfl
  refine ⟨t, u, ht, hu, ?_⟩
  rw [hdecoded, receivedPair_deliverPair, hsent, decodePacket_encodePacket]

/-- What DEC_GEN unpacks, ENC_GEN sends again (40_codec.md R88). -/
theorem step_decGen_step_encGen {s : State} (hop : s.inp.op.toNat = 2) :
    ∃ t u, step s = .next t ∧ step (t.returnPacket.selectOp 0#3) = .next u ∧
      u.out.pair = receivedPair s.inp := by
  obtain ⟨t, ht, hdecoded⟩ := step_decGen hop
  obtain ⟨u, hu, hsent⟩ := step_encGen (s := t.returnPacket.selectOp 0#3) rfl
  refine ⟨t, u, ht, hu, ?_⟩
  rw [hsent, generalPacket_returnPacket, hdecoded, encodePacket_decodePacket]

/-- Settles O35: the decoded packet is the one sent, whose mode and data are masked. -/
theorem packetSurvivesTheWire : Obligations.PacketSurvivesTheWire := by
  intro s hop
  obtain ⟨t, u, ht, hu, hpacket⟩ := step_encGen_step_decGen hop
  obtain ⟨hblock, hdevice, hmode, hdata⟩ := Packet.mk.inj hpacket
  refine ⟨t, u, ht, hu, hblock, hdevice, ?_, ?_⟩
  · rw [hmode, maskMode_toNat]
  · rw [hdata, maskData_toNat]

/-- Settles O36: the pair sent is the one received. -/
theorem wirePairSurvivesThePacket : Obligations.WirePairSurvivesThePacket := by
  intro s hop
  obtain ⟨t, u, ht, hu, hpair⟩ := step_decGen_step_encGen hop
  exact ⟨t, u, ht, hu, WirePair.mk.inj hpair⟩

/-- Settles O37: both round trips give the packet sent, each field of which is a function of its own operand. -/
theorem fieldsAreIsolated : Obligations.FieldsAreIsolated := by
  intro s s' hop hop'
  obtain ⟨t, u, ht, hu, hpacket⟩ := step_encGen_step_decGen hop
  obtain ⟨t', u', ht', hu', hpacket'⟩ := step_encGen_step_decGen hop'
  obtain ⟨hblock, hdevice, hmode, hdata⟩ := Packet.mk.inj hpacket
  obtain ⟨hblock', hdevice', hmode', hdata'⟩ := Packet.mk.inj hpacket'
  refine ⟨t, t', u, u', ht, ht', hu, hu', fun h => ?_, fun h => ?_, fun h => ?_, fun h => ?_⟩
  · rw [hblock, hblock', h]
  · rw [hdevice, hdevice', h]
  · rw [hmode, hmode', h]
  · rw [hdata, hdata', h]

/-! ## The ports an evaluation reads -/

/-- Of the inputs, an evaluation reads the select and the ports of the selected operation (10_state.md R24). -/
theorem evaluateOutputs_of_agreeOnRead (s : State) {u v : Inputs} (h : AgreeOnRead u v) :
    evaluateOutputs s u = evaluateOutputs s v := by
  obtain ⟨hselect, hgen, hltf, hdec, hcode⟩ := h
  rcases select_cases u.op with hop | hop | hop | hop | hop | hop | hop | hop <;> have hop' := hselect ▸ hop
  · obtain ⟨hblock, hdevice, hmode, hdata⟩ := hgen hop
    simp only [evaluateOutputs_encGen hop, evaluateOutputs_encGen hop', encGenOutputs, generalPacket, hblock,
      hdevice, hmode, hdata]
  · obtain ⟨hblock, hdevice, hdata⟩ := hltf hop
    simp only [evaluateOutputs_encLtf hop, evaluateOutputs_encLtf hop', encLtfOutputs, laserTagPacket, hblock,
      hdevice, hdata]
  · obtain ⟨haddress, hcommand⟩ := hdec (.inl hop)
    simp only [evaluateOutputs_decGen hop, evaluateOutputs_decGen hop', decGenOutputs, receivedPair, haddress,
      hcommand]
  · obtain ⟨haddress, hcommand⟩ := hdec (.inr hop)
    simp only [evaluateOutputs_decLtf hop, evaluateOutputs_decLtf hop', decLtfOutputs, receivedPair, haddress,
      hcommand]
  · simp only [evaluateOutputs_modeName hop, evaluateOutputs_modeName hop', modeNameOutputs, hcode (.inl hop)]
  · simp only [evaluateOutputs_colorName hop, evaluateOutputs_colorName hop', colorNameOutputs,
      hcode (.inr (.inl hop))]
  · simp only [evaluateOutputs_colorRgb hop, evaluateOutputs_colorRgb hop', colorRgbOutputs,
      hcode (.inr (.inr hop))]
  · rw [evaluateOutputs_reserved hop, evaluateOutputs_reserved hop']

/-- Settles O38: the other inputs evaluate as those of `s` do, and two evaluations of the same inputs over the same
tables have the same result. -/
theorem unreadInputsHaveNoEffect : Obligations.UnreadInputsHaveNoEffect := by
  intro s v h
  refine ⟨_, _, step_next s, step_next { s with inp := v }, ?_⟩
  rw [State.completed_out, State.completed_out, ← evaluateOutputs_of_agreeOnRead _ h]
  exact evaluateOutputs_sameResult s.inp rfl

end Sys2Proof.Machine
end

section
/-! SUPPORT. The three lookups (41_lookup.md): what a name lookup shows and spells on its hit and on its miss, what
COLOR_RGB drives, and that no name of the tables as built is the sentinel. -/

namespace Sys2Proof.Machine

/-! ## Name lookups -/

theorem modeName_of_hit {t : State} (hout : t.out = modeNameOutputs t.inp) (hit : t.inp.code.toNat < 12) :
    t.out.nameHit = true ∧ t.out.nameIndex.toNat = t.inp.code.toNat ∧
      spelledModeName t t.out.nameHit t.out.nameIndex = t.modeRom[t.inp.code.toNat]? := by
  have hindex := modeIndex_toNat _ hit
  rw [hout, modeNameOutputs_hit hit]
  refine ⟨rfl, hindex, ?_⟩
  rw [spelledModeName_hit t (hindex ▸ hit), hindex]

theorem modeName_of_miss {t : State} (hout : t.out = modeNameOutputs t.inp) (miss : 12 ≤ t.inp.code.toNat) :
    t.out.nameHit = false ∧ t.out.nameIndex = 0 ∧
      spelledModeName t t.out.nameHit t.out.nameIndex = some unknownName := by
  rw [hout, modeNameOutputs_miss miss]
  exact ⟨rfl, rfl, spelledModeName_miss t 0⟩

theorem colorName_of_hit {t : State} (hout : t.out = colorNameOutputs t.inp) (hit : t.inp.code.toNat < 8) :
    t.out.nameHit = true ∧ t.out.nameIndex.toNat = t.inp.code.toNat ∧
      spelledColorName t t.out.nameHit t.out.nameIndex =
        t.colorRom[t.inp.code.toNat]?.map ColorEntry.name := by
  rw [hout, colorNameOutputs_hit hit]
  refine ⟨rfl, colorIndex_toNat _ hit, ?_⟩
  rw [spelledColorName_hit, colorIndex_entry _ hit]

theorem colorName_of_miss {t : State} (hout : t.out = colorNameOutputs t.inp) (miss : 8 ≤ t.inp.code.toNat) :
    t.out.nameHit = false ∧ t.out.nameIndex = 0 ∧
      spelledColorName t t.out.nameHit t.out.nameIndex = some unknownName := by
  rw [hout, colorNameOutputs_miss miss]
  exact ⟨rfl, rfl, spelledColorName_miss t 0⟩

/-- Settles O24: the operation drives `modeNameOutputs`, on a hit and on a miss. -/
theorem modeNameLooksUpTheWholeCode : Obligations.ModeNameLooksUpTheWholeCode := fun s =>
  have hout := s.completed_out (modeNameOutputs s.inp) 0
  ⟨_, rfl, modeName_of_hit hout, modeName_of_miss hout⟩

/-- Settles O25: the operation drives `colorNameOutputs`, on a hit and on a miss. -/
theorem colorNameLooksUpTheWholeCode : Obligations.ColorNameLooksUpTheWholeCode := fun s =>
  have hout := s.completed_out (colorNameOutputs s.inp) 0
  ⟨_, rfl, colorName_of_hit hout, colorName_of_miss hout⟩

/-! ## COLOR_RGB -/

theorem colorRgbOutputs_of_entry {s : State} {v : Inputs} {e : ColorEntry}
    (he : s.colorRom[v.code.toNat]? = some e) : colorRgbOutputs s v = colorFoundOutputs e := by
  obtain ⟨hit, rfl⟩ := Vector.getElem?_eq_some_iff.1 he
  exact colorRgbOutputs_hit hit

/-- Settles O26: an entry is driven with no draw taken, a code below 8 has one, and a miss takes its three draws. -/
theorem colorRgbFindsOrDraws : Obligations.ColorRgbFindsOrDraws := by
  refine fun s => ⟨s.completed (colorRgbOutputs s s.inp) (colorRgbDraws s.inp), rfl, fun e he => ?entry,
    fun hit => ⟨_, Vector.getElem?_eq_getElem hit⟩, fun miss => ?miss⟩
  case entry =>
    obtain ⟨hit, -⟩ := Vector.getElem?_eq_some_iff.1 he
    rw [colorRgbOutputs_of_entry he, colorRgbDraws_hit hit]
    exact ⟨rfl, rfl, rfl, rfl, rfl⟩
  case miss =>
    rw [colorRgbOutputs_miss miss, colorRgbDraws_miss miss]
    exact ⟨rfl, rfl, rfl, rfl, rfl⟩

/-! ## The sentinel name -/

/-- No mode of the table as built has the sentinel's name (41_lookup.md R103). -/
theorem builtModeRom_ne_unknownName : ∀ k (h : k < 12), builtModeRom[k] ≠ unknownName := by decide

/-- No color of the table as built has the sentinel's name (41_lookup.md R103). -/
theorem builtColorRom_name_ne_unknownName : ∀ k (h : k < 8), builtColorRom[k].name ≠ unknownName := by decide

theorem spelledName_of_modeName {t : State} (hop : t.inp.op.toNat = 4) :
    t.spelledName = spelledModeName t t.out.nameHit t.out.nameIndex := by
  simp only [State.spelledName, hop]

theorem spelledName_of_colorName {t : State} (hop : t.inp.op.toNat = 5) :
    t.spelledName = spelledColorName t t.out.nameHit t.out.nameIndex := by
  simp only [State.spelledName, hop]

/-- The spelled name exists, and it is the sentinel exactly when the name flag is 0. -/
def State.UnknownIsMiss (t : State) : Prop :=
  (t.spelledName = some unknownName ↔ t.out.nameHit = false) ∧ t.spelledName ≠ none

theorem unknownIsMiss_of_hit {t : State} {n : Name} (hit : t.out.nameHit = true) (hname : t.spelledName = some n)
    (hn : n ≠ unknownName) : t.UnknownIsMiss := by
  simp [State.UnknownIsMiss, hit, hname, hn]

theorem unknownIsMiss_of_miss {t : State} (miss : t.out.nameHit = false) (hname : t.spelledName = some unknownName) :
    t.UnknownIsMiss := by
  simp [State.UnknownIsMiss, miss, hname]

theorem unknownIsMiss_of_modeName {t : State} (hop : t.inp.op.toNat = 4) (hrom : t.modeRom = builtModeRom)
    (hout : t.out = modeNameOutputs t.inp) : t.UnknownIsMiss := by
  have hname := spelledName_of_modeName hop
  rcases Nat.lt_or_ge t.inp.code.toNat 12 with hit | miss
  · obtain ⟨hflag, -, hspelled⟩ := modeName_of_hit hout hit
    rw [hspelled, hrom, Vector.getElem?_eq_getElem hit] at hname
    exact unknownIsMiss_of_hit hflag hname (builtModeRom_ne_unknownName _ hit)
  · obtain ⟨hflag, -, hspelled⟩ := modeName_of_miss hout miss
    exact unknownIsMiss_of_miss hflag (hname.trans hspelled)

theorem unknownIsMiss_of_colorName {t : State} (hop : t.inp.op.toNat = 5) (hrom : t.colorRom = builtColorRom)
    (hout : t.out = colorNameOutputs t.inp) : t.UnknownIsMiss := by
  have hname := spelledName_of_colorName hop
  rcases Nat.lt_or_ge t.inp.code.toNat 8 with hit | miss
  · obtain ⟨hflag, -, hspelled⟩ := colorName_of_hit hout hit
    rw [hspelled, hrom, Vector.getElem?_eq_getElem hit] at hname
    exact unknownIsMiss_of_hit hflag hname (builtColorRom_name_ne_unknownName _ hit)
  · obtain ⟨hflag, -, hspelled⟩ := colorName_of_miss hout miss
    exact unknownIsMiss_of_miss hflag (hname.trans hspelled)

/-- Settles O44: a step keeps the tables as built, in which the sentinel is no entry's name. -/
theorem unknownTellsAMissFromAHit : Obligations.UnknownTellsAMissFromAHit := by
  intro s t hroms hop h
  obtain ⟨hmode, hcolor⟩ := hroms.of_onlyOutputsChange (step_onlyOutputsChange h)
  rw [← (step_onlyOutputsChange h).inp] at hop
  rcases hop with hop | hop
  · exact unknownIsMiss_of_modeName hop hmode ((step_out h).trans (evaluateOutputs_modeName hop))
  · exact unknownIsMiss_of_colorName hop hcolor ((step_out h).trans (evaluateOutputs_colorName hop))

end Sys2Proof.Machine
end

section
/-! SUPPORT. The packet modes (42_modes.md): the rows of the named modes under the decoders, what the encoders send,
the name and the data of a mode, the unnamed modes, and the view, which has no part in a result. -/

namespace Sys2Proof.Machine

/-! ## Named modes under the decoders -/

/-- Both decoders drive the packet of the received pair (40_codec.md R84, R85). -/
theorem evaluateOutputs_packet_of_decodes {v : Inputs} (hv : v.Decodes) (s : State) :
    (evaluateOutputs s v).packet = decodePacket (receivedPair v) := by
  rcases hv with hop | hop
  · rw [evaluateOutputs_decGen hop]
    rfl
  · rw [evaluateOutputs_decLtf hop]
    rfl

/-- The evaluation of any inputs, driven while those inputs stand, is settled. -/
theorem settled_evaluateOutputs (s : State) (v : Inputs) :
    Settled { s with inp := v, out := evaluateOutputs s v } :=
  settled_of_out_eq rfl rfl

/-- A command on its port leaves the select as it stands. -/
theorem Inputs.Decodes.withCommand {v : Inputs} (hv : v.Decodes) (c : Command) :
    (v.withWord (.command c)).Decodes := hv

/-- Under a decoder, a command packed from three fields gives them back, with the block ID of `in_address`. -/
theorem evaluateOutputs_packet_of_packCommand {v : Inputs} (hv : v.Decodes) (s : State) (t : Data) (m : Mode)
    (d : Byte) :
    (evaluateOutputs s (v.withWord (.command (packCommand t m d)))).packet = ⟨v.address, d, m, t⟩ :=
  (evaluateOutputs_packet_of_decodes (hv.withCommand _) s).trans (decodePacket_encodePacket ⟨v.address, d, m, t⟩)

/-- Whatever the select, a packed command is matched exactly under DEC_LTF with mode 0 (40_codec.md R85). -/
theorem evaluateOutputs_matched_packCommand_iff (s : State) (v : Inputs) (t : Data) (m : Mode) (d : Byte) :
    (evaluateOutputs s (v.withWord (.command (packCommand t m d)))).matched = true ↔
      v.op.toNat = 3 ∧ m.toNat = 0 := by
  have hset := (settled_evaluateOutputs s (v.withWord (.command (packCommand t m d)))).matched
  simpa only [Inputs.withWord, ← commandMode_toNat, commandMode_packCommand] using hset

theorem evaluateDraws_of_decodes {v : Inputs} (hv : v.Decodes) : evaluateDraws v = 0 :=
  evaluateDraws_other (by omega)

/-- The row of a mode code, run under a decoder, unpacks its own command. -/
theorem carries_of_modeInstr {s : State} (hs : s.inp.Decodes) {m : Mode} {d : Byte} {t : Data} {i : Instr}
    (hi : modeInstr m d t = .ok i) : Carries i m.toNat d t s := by
  obtain ⟨hblock, hdevice, hmode, hdata⟩ := Packet.mk.inj (evaluateOutputs_packet_of_packCommand hs s t m d)
  exact ⟨_, exec_of_modeInstr hi s, hblock, hdevice, congrArg BitVec.toNat hmode, hdata,
    evaluateOutputs_matched_packCommand_iff s s.inp t m d, onlyOutputsChange_completed ..,
    congrArg (s.draws + ·) (evaluateDraws_of_decodes (hs.withCommand _))⟩

/-- Settles O29: each row by its mode code. -/
theorem namedModesAreUnpacked : Obligations.NamedModesAreUnpacked := by
  intro s d t hs
  have row (m : Mode) {i : Instr} (hi : modeInstr m d t = .ok i) : Carries i m.toNat d t s :=
    carries_of_modeInstr hs hi
  exact ⟨row 0 rfl, row 1 rfl, row 2 rfl, row 3 rfl, row 4 rfl, row 5 rfl, row 6 rfl, row 7 rfl, row 8 rfl,
    row 9 rfl, row 10 rfl, row 11 rfl⟩

/-! ## What the encoders send -/

/-- Settles O33: the command is packed from the masked fields, so it decodes to the row of its mode code. -/
theorem encodersSendTheRowOfTheirMode : Obligations.EncodersSendTheRowOfTheirMode := by
  intro s
  refine ⟨fun hmode => ?_, ⟨_, maskData s.inp.data, rfl, ?_, maskData_toNat s.inp.data⟩⟩
  · rw [← maskMode_toNat] at hmode ⊢
    obtain ⟨i, hi, -, hmatch⟩ := modeInstr_named hmode s.inp.deviceId (maskData s.inp.data)
    exact ⟨_, i, rfl, (decode_packCommand ..).trans hi, hmatch⟩
  · exact decode_packCommand (maskData s.inp.data) Config.ltfMode s.inp.deviceId

/-! ## The name and the data of a mode -/

/-- Whatever the table holds, a MODE_NAME hit spells the entry of its code (41_lookup.md R100, R104). -/
theorem step_modeName_spelledName {s t : State} (h : step s = .next t) (hop : s.inp.op.toNat = 4)
    (hit : s.inp.code.toNat < 12) : t.spelledName = s.modeRom[s.inp.code.toNat]? := by
  have hframe := step_onlyOutputsChange h
  rw [← hframe.inp] at hop hit ⊢
  obtain ⟨-, -, hspelled⟩ := modeName_of_hit ((step_out h).trans (evaluateOutputs_modeName hop)) hit
  rw [spelledName_of_modeName hop, hspelled, hframe.modeRom]

/-- Settles O31: a hit gives the entry of its code, and O14 lists the entries. -/
theorem modeCodesSpellTheirNames : Obligations.ModeCodesSpellTheirNames := by
  intro s hroms hop hit
  have htable : builtModeRom.toList = _ := resetModeRomIsTheModeTable
  refine ⟨_, step_next s, ?_⟩
  rw [step_modeName_spelledName (step_next s) hop hit, hroms.1, ← Vector.getElem?_toList, htable]

theorem dataMeaning_eq_colorCode_iff (m : Mode) :
    dataMeaning m = .colorCode ↔ m.toNat = 0 ∨ m.toNat = 9 ∨ m.toNat = 10 := by
  unfold dataMeaning
  split <;> simp_all

theorem packetColor_of_colorCode {p : Packet} (h : dataMeaning p.mode = .colorCode) (s : State) :
    packetColor s p = some (s.colorRom[p.data.toNat]'p.data.isLt) := by
  rw [packetColor, h]
  exact Vector.getElem?_eq_getElem p.data.isLt

theorem packetColor_of_notGiven {p : Packet} (h : dataMeaning p.mode ≠ .colorCode) (s : State) :
    packetColor s p = none := by
  cases hmeaning : dataMeaning p.mode with
  | colorCode => exact absurd hmeaning h
  | notGiven => rw [packetColor, hmeaning]

/-- Settles O34: the three modes are those of color codes, and the data has three bits, so its entry exists. -/
theorem onlyFireAndColorSetDataIsAColor : Obligations.OnlyFireAndColorSetDataIsAColor := by
  intro s p
  rw [← dataMeaning_eq_colorCode_iff]
  refine ⟨fun h => ⟨_, packetColor_of_colorCode h s, ?_⟩, fun hfire htemporary hpermanent =>
    packetColor_of_notGiven (fun h => ?_) s⟩
  · rw [Vector.getElem?_toList]
    exact Vector.getElem?_eq_getElem p.data.isLt
  · have := (dataMeaning_eq_colorCode_iff p.mode).1 h
    omega

/-! ## Unnamed modes -/

/-- Both decoders unpack a command of an unnamed mode whole and do not match it (42_modes.md R132). -/
theorem step_decodes_unnamed {s : State} (hmode : 12 ≤ s.inp.command.toNat / 256 % 32) (hs : s.inp.Decodes) :
    ∃ t, step s = .next t ∧
      t.out.blockId = s.inp.address ∧ t.out.deviceId.toNat = s.inp.command.toNat % 256 ∧
      t.out.mode.toNat = s.inp.command.toNat / 256 % 32 ∧ t.out.data.toNat = s.inp.command.toNat / 8192 ∧
      t.out.matched = false := by
  obtain ⟨-, -, hdecGen, hdecLtf, -⟩ := stepRunsTheSelectedOperation s
  rcases hs with hop | hop
  · rw [hdecGen hop]
    exact decGenUnpacksEveryPair s
  · obtain ⟨t, ht, hblock, hdevice, hfield, hdata, hmatched⟩ := decLtfUnpacksAndMatchesModeZero s
    refine ⟨t, (hdecLtf hop).trans ht, hblock, hdevice, hfield, hdata, Bool.eq_false_iff.2 fun h => ?_⟩
    have := hmatched.1 h
    omega

/-- A command that carries an unnamed mode between a device ID and data has no row (42_modes.md R132). -/
theorem decode_command_of_unnamed_arg {c : Command} {d : Byte} {a : Arg} {x : Nat}
    (hc : c.toNat = d.toNat + 256 * a.toNat + 8192 * x) (hunnamed : 12 ≤ a.toNat) (hfits : a.toNat ≤ 31) :
    decode (.command c) = .error (.unnamedMode (maskMode a)) := by
  have hd := d.isLt
  have hfield : c.toNat / 256 % 32 = a.toNat := by omega
  have hmode : commandMode c = maskMode a := by
    apply BitVec.eq_of_toNat_eq
    rw [commandMode_toNat, maskMode_toNat, hfield]
    omega
  rw [decode_command_unnamed (hfield ▸ hunnamed), hmode]

/-- ENC_GEN packs an unnamed mode whole, into a command without a row (42_modes.md R132). -/
theorem step_encGen_unnamed {s : State} (hunnamed : 12 ≤ s.inp.mode.toNat) (hfits : s.inp.mode.toNat ≤ 31)
    (hop : s.inp.op.toNat = 0) :
    ∃ t, step s = .next t ∧ t.out.address = s.inp.blockId ∧
      t.out.command.toNat = s.inp.deviceId.toNat + 256 * s.inp.mode.toNat + 8192 * (s.inp.data.toNat % 8) ∧
      t.out.matched = false ∧ t.out.nameHit = false ∧ t.out.found = false ∧ t.out.illegal = false ∧
      decode (.command t.out.command) = .error (.unnamedMode (maskMode s.inp.mode)) := by
  obtain ⟨hencGen, -⟩ := stepRunsTheSelectedOperation s
  obtain ⟨t, ht, haddress, hcommand, hmatched, hname, hfound, hillegal⟩ := encGenPacksTheMaskedFields s
  rw [Nat.mod_eq_of_lt (Nat.lt_succ_of_le hfits)] at hcommand
  exact ⟨t, (hencGen hop).trans ht, haddress, hcommand, hmatched, hname, hfound, hillegal,
    decode_command_of_unnamed_arg hcommand hunnamed hfits⟩

/-- MODE_NAME of a code without a name spells the sentinel (41_lookup.md R100, R103). -/
theorem step_modeName_unnamed {s : State} (miss : 12 ≤ s.inp.code.toNat) (hop : s.inp.op.toNat = 4) :
    ∃ t, step s = .next t ∧ t.out.nameHit = false ∧ t.out.nameIndex = 0 ∧ t.spelledName = some unknownName := by
  obtain ⟨t, ht⟩ : ∃ t, step s = .next t := ⟨_, step_next s⟩
  rw [← (step_onlyOutputsChange ht).inp] at miss hop
  obtain ⟨hflag, hindex, hspelled⟩ := modeName_of_miss ((step_out ht).trans (evaluateOutputs_modeName hop)) miss
  exact ⟨t, ht, hflag, hindex, (spelledName_of_modeName hop).trans hspelled⟩

/-- Settles O17: the decoders, ENC_GEN and MODE_NAME on a mode without a row. -/
theorem unnamedModesAreCarriedAndUnnamed : Obligations.UnnamedModesAreCarriedAndUnnamed := fun _ =>
  ⟨step_decodes_unnamed, step_encGen_unnamed, fun miss _ hop => step_modeName_unnamed miss hop⟩

/-! ## The view -/

/-- Of the state, an evaluation reads `COLOR_ROM` and the draws, and nothing else (40_codec.md R80). -/
theorem evaluateOutputs_of_colorRom_draws {s s' : State} (hrom : s'.colorRom = s.colorRom)
    (hdraws : s'.draws = s.draws) (v : Inputs) : evaluateOutputs s v = evaluateOutputs s' v := by
  by_cases hmiss : v.ColorMiss
  · simp only [evaluateOutputs_colorRgb hmiss.1, colorRgbOutputs_miss hmiss.2, colorMissOutputs, State.draw, hdraws]
  · exact evaluateOutputs_congr hrom hmiss

/-- Settles O18: both steps are one evaluation of the same inputs, over the same table and the same draws. -/
theorem viewChangesNoResult : Obligations.ViewChangesNoResult := by
  intro s v w
  refine ⟨_, _, step_next { s with fetchFrom := v }, step_next { s with fetchFrom := w }, ?_⟩
  rw [evaluateOutputs_of_colorRom_draws (s := { s with fetchFrom := w }) (s' := { s with fetchFrom := v }) rfl rfl]
  rfl

end Sys2Proof.Machine
end

section
/-! SUPPORT. Exceptions (60_exceptions.md): no evaluation stops, the answer to the reserved select, and the condition
table. -/

namespace Sys2Proof.Machine

/-- Settles O9: an instruction and a step are each one evaluation, and an evaluation completes over its inputs. -/
theorem nothingStopsOrDivertsTheBlock : Obligations.NothingStopsOrDivertsTheBlock :=
  ⟨fun i s => ⟨_, exec_eq_evaluateOn i s, rfl⟩, fun s => ⟨_, step_next s, rfl⟩⟩

/-- Settles O16: the evaluation of select 7 drives `reservedOutputs` and takes no draw. -/
theorem reservedSelectOnlyRaisesIllegal : Obligations.ReservedSelectOnlyRaisesIllegal := fun s hop =>
  ⟨_, step_next s, evaluateOutputs_reserved hop, onlyOutputsChange_completed ..,
    congrArg (s.draws + ·) (evaluateDraws_other (by omega))⟩

/-! ## The condition table -/

/-- The rows of 60_exceptions.md R145 in plain arithmetic: the inputs that raise a condition. -/
def Condition.RaisedBy (c : Condition) (v : Inputs) : Prop :=
  match c with
  | .maskedOperand =>
    (v.op.toNat = 0 ∧ (32 ≤ v.mode.toNat ∨ 8 ≤ v.data.toNat)) ∨ (v.op.toNat = 1 ∧ 8 ≤ v.data.toNat)
  | .notLaserTagFire => v.op.toNat = 3 ∧ v.command.toNat / 256 % 32 ≠ 0
  | .nameUnknown => (v.op.toNat = 4 ∧ 12 ≤ v.code.toNat) ∨ (v.op.toNat = 5 ∧ 8 ≤ v.code.toNat)
  | .colorNotFound => v.ColorMiss
  | .illegalOp => v.op.toNat = 7

theorem Condition.raisedBy_of_conditionOf {v : Inputs} {c : Condition} (h : conditionOf v = some c) :
    c.RaisedBy v := by
  have hselect := v.op.isLt
  simp only [conditionOf, isLaserTagFire_commandMode_iff, modeInRange_iff, colorInRange_iff] at h
  split at h
  case h_3 => cases h
  case h_8 =>
    cases h
    simp only [RaisedBy, imp_false] at *
    omega
  all_goals
    split at h <;> cases h
    simp only [RaisedBy]
    omega

theorem Condition.conditionOf_of_raisedBy {v : Inputs} {c : Condition} (h : c.RaisedBy v) :
    conditionOf v = some c := by
  cases c with
  | maskedOperand => rcases h with ⟨hop, hwide⟩ | ⟨hop, hwide⟩ <;> simp [conditionOf, hop, hwide]
  | notLaserTagFire => simp [conditionOf, h.1, isLaserTagFire_commandMode_iff, h.2]
  | nameUnknown => rcases h with ⟨hop, hmiss⟩ | ⟨hop, hmiss⟩ <;> simp [conditionOf, hop, Nat.not_lt.2 hmiss]
  | colorNotFound => simp [conditionOf, h.1, Nat.not_lt.2 h.2]
  | illegalOp =>
    simp only [RaisedBy] at h
    simp [conditionOf, h]

theorem conditionOf_eq_some_iff (v : Inputs) (c : Condition) : conditionOf v = some c ↔ c.RaisedBy v :=
  ⟨Condition.raisedBy_of_conditionOf, Condition.conditionOf_of_raisedBy⟩

/-- On settled outputs a flag is 0 unless its own case of 10_state.md R26 holds, which a raised condition excludes. -/
theorem Condition.RaisedBy.shown {t : State} (hset : Settled t) {c : Condition} (h : c.RaisedBy t.inp) :
    c.Shown t.out := by
  cases c <;> simp only [RaisedBy] at h <;> simp only [Shown, ← Bool.not_eq_true]
  case maskedOperand =>
    rw [hset.matched, hset.nameHit, hset.found, hset.illegal]
    omega
  case notLaserTagFire =>
    rw [hset.matched]
    omega
  case nameUnknown =>
    have hmiss : ¬ t.inp.NameHit := by omega
    refine ⟨fun hflag => hmiss (hset.nameHit.1 hflag), BitVec.eq_of_toNat_eq ?_⟩
    rw [hset.nameIndex, if_neg hmiss]
    rfl
  case colorNotFound =>
    rw [hset.found]
    omega
  case illegalOp => exact hset.illegal.2 h

/-- Settles O40: the table's rows are `conditionOf_eq_some_iff`, and by O10 the outputs a condition shows on are
settled. -/
theorem conditionsAreRaisedAndShown : Obligations.ConditionsAreRaisedAndShown := by
  intro s t h
  have rows := conditionOf_eq_some_iff s.inp
  refine ⟨rows .maskedOperand, rows .notLaserTagFire, rows .nameUnknown, rows .colorNotFound, rows .illegalOp,
    fun c hc => ?_⟩
  rw [rows, ← (step_onlyOutputsChange h).inp] at hc
  exact hc.shown (everyStepSettlesTheOutputs s t h)

end Sys2Proof.Machine
end

section
/-! SUPPORT. What a host may rely on (70_reset_and_hazards.md): a flag it has checked, operands it has pre-validated,
a sample it has waited `T_PD` for. -/

namespace Sys2Proof.Machine

/-! ## Checked flags -/

/-- A found color has an entry in the table, and its triple is driven (41_lookup.md R102). -/
theorem Settled.entry_of_found {t : State} (hset : Settled t) (hfound : RgbUsable t) :
    ∃ e, t.colorRom[t.inp.code.toNat]? = some e ∧ t.out.r = e.r ∧ t.out.g = e.g ∧ t.out.b = e.b := by
  have hin : t.inp.ColorFound := hset.found.1 hfound
  have hentry := Vector.getElem?_eq_getElem (xs := t.colorRom) hin.2
  exact ⟨_, hentry, hset.triple _ hin hentry⟩

/-- Only DEC_LTF matches, and only mode 0, so the packet is the command's (40_codec.md R85). -/
theorem Settled.mode_data_of_matched {t : State} (hset : Settled t) (hmatched : LaserTagColorUsable t) :
    t.out.mode = 0 ∧ t.out.data.toNat = t.inp.command.toNat / 8192 := by
  obtain ⟨hop, hmode⟩ := hset.matched.1 hmatched
  have hdecodes : t.inp.Decodes := .inr hop
  refine ⟨BitVec.eq_of_toNat_eq ?_, ?_⟩
  · rw [hset.mode, if_pos hdecodes, hmode]
    rfl
  · rw [hset.data, if_pos hdecodes]

/-- Settles O42: a step's outputs are settled (O10) over the inputs and the table it leaves, and the data of mode 0 is
a color code. -/
theorem checkedFlagsCanBeTrusted : Obligations.CheckedFlagsCanBeTrusted := by
  intro s t h
  have hset : Settled t := everyStepSettlesTheOutputs s t h
  have hframe := step_onlyOutputsChange h
  rw [← hframe.inp, ← hframe.colorRom]
  refine ⟨hset.entry_of_found, fun hmatched => ?_⟩
  obtain ⟨hmode, hdata⟩ := hset.mode_data_of_matched hmatched
  have hcolor : dataMeaning t.out.mode = .colorCode := by
    rw [hmode]
    rfl
  exact ⟨hmode, hdata, _, packetColor_of_colorCode hcolor t⟩

/-! ## Pre-validated operands -/

/-- The only condition an encoder can raise is a masked operand (60_exceptions.md R145). -/
theorem conditionOf_eq_none_of_nothingMasked {v : Inputs} (hencodes : v.Encodes) (hfits : v.NothingMasked) :
    conditionOf v = none := by
  refine Option.eq_none_iff_forall_ne_some.2 fun c hc => ?_
  have hraised := (conditionOf_eq_some_iff v c).1 hc
  cases c <;> simp only [Condition.RaisedBy] at hraised <;> omega

/-- Operands within their fields lie unmasked side by side in the command (40_codec.md R82, R83); ENC_LTF does not read
`in_mode`. -/
theorem Settled.command_fields_of_nothingMasked {t : State} (hset : Settled t) (hencodes : t.inp.Encodes)
    (hfits : t.inp.NothingMasked) :
    t.out.command.toNat % 256 = t.inp.deviceId.toNat ∧
      (t.inp.op.toNat = 0 → t.out.command.toNat / 256 % 32 = t.inp.mode.toNat) ∧
      t.out.command.toNat / 8192 = t.inp.data.toNat := by
  have hdevice := t.inp.deviceId.isLt
  have hcommand := hset.command
  rcases hencodes with hop | hop
  · rw [if_pos hop] at hcommand
    omega
  · rw [if_neg (by omega), if_pos hop] at hcommand
    omega

/-- Settles O43: within the fields no condition is raised, and the step's outputs are settled (O10). -/
theorem prevalidatedOperandsAreSentExactly : Obligations.PrevalidatedOperandsAreSentExactly := by
  intro s hencodes hfits
  have hset := everyStepSettlesTheOutputs s _ (step_next s)
  exact ⟨_, step_next s, conditionOf_eq_none_of_nothingMasked hencodes hfits,
    hset.command_fields_of_nothingMasked hencodes hfits⟩

/-! ## Settled samples -/

theorem State.sample_of_tPd_le (t : State) {age : Nat} (hage : Config.tPd ≤ age) (n : Nat) :
    t.sample age n = t.out :=
  if_pos hage

/-- Settles O47: from `T_PD` on a sample is what the step drove, which is the evaluation of the inputs, settled
by O10. -/
theorem settledSamplesShowTheResult : Obligations.SettledSamplesShowTheResult := by
  intro s
  refine ⟨_, step_next s, fun age n hage => ?_⟩
  rw [State.sample_of_tPd_le _ hage]
  exact ⟨rfl, everyStepSettlesTheOutputs s _ (step_next s)⟩

end Sys2Proof.Machine
end
